-- ==== Sys2Proof/Word.lean ====
section
/-! DEFINITION. The word types of the block (00_scope.md R8, R9): every quantity is unsigned, bit 0 is the least
significant bit. -/

namespace Sys2Proof

/-- A 32-bit quantity: an operand, a result, the CRC accumulator, an SWD data word (R8, "u32"). -/
abbrev Word := BitVec 32

/-- An 8-bit quantity: an operation code, a data byte, an SWD request header (R8, "u8"). -/
abbrev Byte := BitVec 8

/-- The record of one operation request, 72 bits: OPC 71:64, OP_A 63:32, OP_B 31:0 (30_encoding.md R80). -/
abbrev Record := BitVec 72

/-- The level of a line: `true` is 1, `false` is 0 (00_scope.md R8, "bit"). -/
abbrev Level := Bool

end Sys2Proof
end

