-- ==== Sys2Proof/Config.lean ====
section
/-! DEFINITION. What is fixed for one machine and not state (00_scope.md R7, 10_state.md R41): the fixed constants,
the open parameters, and the free value of the environment. An open parameter and a free value have no body, so that
nothing can be proved of one value of theirs (R7: "the model takes it as an argument and must prove its claims for
every admitted value"). -/

namespace Sys2Proof.Config

/-- FREE VALUE. The level the environment presents at the n-th sample for which `State.answers` holds none
(20_memory.md R56: "the value is a free input"; 93_implementation_defined.md U5). DESIGN CHOICE of its form: log 3. -/
opaque freeLevel : Nat → Level

/-- OPEN PARAMETER (R7, U14): the inter-edge delay of `QCLK`. No rule depends on its value (log 10). -/
opaque qspiDelay : Nat

/-- OPEN PARAMETER (R7, U14): the inter-edge delay of `SWCLK`. No rule depends on its value (log 10). -/
opaque swdDelay : Nat

/-- How many clock cycles a line reset has above the 50 it has at least (R7, U15; log 9). -/
opaque swdResetExtraClocks : Nat

/-- OPEN PARAMETER `SWD_RESET_CLOCKS` (R7: "open, with `SWD_RESET_CLOCKS >= 50`"; 42_swd.md R186; log 9). -/
def swdResetClocks : Nat := 50 + swdResetExtraClocks

/-- OPEN PARAMETER `SWD_JTAG2SWD` (R7: "open parameter with default"; U16; log 9). -/
opaque swdJtag2Swd : BitVec 16

/-- The default of `SWD_JTAG2SWD` (R7, 30_encoding.md R96). -/
def swdJtag2SwdDefault : BitVec 16 := 0xE79E#16

/-- `CRC_INIT_VALUE` (R7, 40_crc.md R111). -/
def crcInitValue : Word := 0xFFFFFFFF#32

/-- `CRC_XOROUT` (R7, 40_crc.md R111). -/
def crcXorOut : Word := 0xFFFFFFFF#32

/-- `CRC_POLY_REFLECTED` (R7, 40_crc.md R113). -/
def crcPolyReflected : Word := 0xEDB88320#32

/-- `QPI_ENTER_CMD` (R7, 30_encoding.md R102). -/
def qpiEnterCmd : Byte := 0x38#8

/-- `QPI_EXIT_CMD` (R7, 30_encoding.md R102). -/
def qpiExitCmd : Byte := 0xFF#8

/-- `SWD_IDLE_CLOCKS` (R7, 42_swd.md R200 step (d)). -/
def swdIdleClocks : Nat := 8

/-- `SWD_ACK_OK` (R7, 30_encoding.md R93). -/
def swdAckOk : BitVec 3 := 1#3

/-- `SWD_IDLE_AFTER` (R7, 42_swd.md R206): no idle cycle follows a transaction. -/
def swdIdleAfter : Nat := 0

/-- `MAX_PAYLOAD` (R7, 20_memory.md R61). -/
def maxPayload : Nat := 4096

end Sys2Proof.Config
end

