-- ==== Sys2Proof/Machine/Bits.lean ====
section
/-! DEFINITION. The counted loop of the pseudocode and the bit helpers the shared operations are written with
(00_scope.md R9, R10, R15). -/

namespace Sys2Proof.Machine

/-- `for i = 0 to n-1: a <- f i a` (00_scope.md R15: it runs zero times when n is 0). -/
def loop {α : Type} : Nat → (Nat → α → α) → α → α
  | 0, _, a => a
  | n + 1, f, a => f n (loop n f a)

/-- `r[i] <- v`, for a bit that is still 0 (00_scope.md R9). -/
def putBit {n : Nat} (r : BitVec n) (i : Nat) (v : Level) : BitVec n :=
  r ||| ((BitVec.ofBool v).setWidth n <<< i)

/-- The value whose bit i is `f i`, for i below n: bits received least significant first (42_swd.md R184). -/
def ofLevels (n : Nat) (f : Nat → Level) : BitVec n :=
  loop n (fun i r => putBit r i (f i)) 0

/-- `v[hi:lo]` for a byte-sized slice: byte j of a word, j = 0 the least significant (00_scope.md R9). -/
def byteOf (v : Word) (j : Nat) : Byte := v.extractLsb' (8 * j) 8

/-- Nibble j of a byte, j = 0 the high nibble (30_encoding.md R89: high nibble first). -/
def nibbleOf (b : Byte) (j : Nat) : BitVec 4 := b.extractLsb' (4 - 4 * j) 4

/-- A bit as a number, 0 or 1. -/
def bitNat (b : Level) : Nat := if b then 1 else 0

/-- `popcount(v)`: the number of 1 bits of `v` (00_scope.md R10). -/
def popcount {n : Nat} (v : BitVec n) : Nat :=
  loop n (fun i c => c + bitNat (v.getLsbD i)) 0

end Sys2Proof.Machine
end

