-- ==== Sys2Proof/Machine/Flags.lean ====
section
/-! DEFINITION. Every bit the block computes from a value: the parity of a data word, the parity of a request header,
the check of an acknowledgement. STATUS itself is written by the returns of Machine/Ops.lean. -/

namespace Sys2Proof.Machine

/-- `parity32(w) = popcount(w) mod 2` (42_swd.md R187, 30_encoding.md R94). -/
def parity32 (w : Word) : Level := popcount w % 2 == 1

/-- The header parity: `p = (APnDP + RnW + A2 + A3) mod 2` (30_encoding.md R92; 90_conflicts.md C2: the definition, not
the label "odd parity"). -/
def headerParity (apndp rnw a2 a3 : Level) : Level :=
  (bitNat apndp + bitNat rnw + bitNat a2 + bitNat a3) % 2 == 1

/-- The acknowledgement is OK: `ack == 1`, every other value fails the access (30_encoding.md R93, 42_swd.md R192). -/
def ackIsOk (ack : BitVec 3) : Bool := ack == Config.swdAckOk

end Sys2Proof.Machine
end

