-- ==== Sys2Proof/Syntax.lean ====
section
/-! DEFINITION. The syntax of the block: the six QSPI modes, the words the outside hands the block, and the ONE
inductive `Instr`, one constructor per row of spec/opcode_table.json. -/

namespace Sys2Proof

/-- The session modes of the QSPI engine (30_encoding.md R85, 10_state.md R30). `QMODE` is 3 bits wide; its codes 6
and 7 "can never be held", so the type has the six legal ones only (log 12). Their codes: `Mode.code`. -/
inductive Mode
  | standard | dualOut | dualIo | quadOut | quadIo | qpi
deriving DecidableEq, Repr

/-- The three units of the block (00_scope.md R1); `OPC[7:4]` selects one (30_encoding.md R80). -/
inductive BlockUnit
  | crc | qspi | swd
deriving DecidableEq, Repr

/-- The encoding spaces of spec/opcode_table.json other than the operation port (its column "format"). The generic
pattern of a request header (the row `SWD_REQUEST`, R91) has a space of its own beside the sixteen values of R95
(log 7). -/
inductive WireFormat
  | swdRequest | swdHeader | swdAck | qspiCmdByte | qmode
deriving DecidableEq, Repr

/-- A word to decode: a request record on the operation port (30_encoding.md R80), or a code of one of the wire
encodings (section 2 and 3 of 30_encoding.md), which in the block occurs inside an operation only (log 6). -/
inductive PortWord
  | request (record : Record)
  | wire (format : WireFormat) (code : Byte)
deriving DecidableEq, Repr

/-- What the outside does to the block next: it presents a word, or the surrounding device resets the block
(70_reset_and_hazards.md R260; log 14). -/
inductive Input
  | word (w : PortWord)
  | reset
deriving DecidableEq, Repr

/-- The instructions: one constructor per row of spec/opcode_table.json. The 22 operations of the port (R82) carry no
operand: an operation is decoded from its operation code "and from nothing else" (20_memory.md R68), and reads its
operands from `OP_A` and `OP_B` (10_state.md R23). The wire encodings follow them (log 6). -/
inductive Instr
  /-- `CRC_INIT` (R115), 0x01. -/
  | crcInit
  /-- `CRC_UPDATE` (R116), 0x02. -/
  | crcUpdate
  /-- `CRC_FINAL` (R117), 0x03. -/
  | crcFinal
  /-- `QSPI_INIT` (R140), 0x10. -/
  | qspiInit
  /-- `QSPI_CS_LOW` (R141), 0x11. -/
  | qspiCsLow
  /-- `QSPI_CS_HIGH` (R142), 0x12. -/
  | qspiCsHigh
  /-- `QSPI_SET_MODE` (R143), 0x13. -/
  | qspiSetMode
  /-- `QSPI_GET_MODE` (R144), 0x14. -/
  | qspiGetMode
  /-- `QSPI_SEND_COMMAND` (R150), 0x15. -/
  | qspiSendCommand
  /-- `QSPI_SEND_ADDRESS` (R151), 0x16. -/
  | qspiSendAddress
  /-- `QSPI_SEND_DUMMY` (R152), 0x17. -/
  | qspiSendDummy
  /-- `QSPI_WRITE_DATA` (R153), 0x18. -/
  | qspiWriteData
  /-- `QSPI_READ_DATA` (R154), 0x19. -/
  | qspiReadData
  /-- `QSPI_TRANSFER` (R155), 0x1A. -/
  | qspiTransfer
  /-- `QSPI_ENTER_QPI` (R160), 0x1B. -/
  | qspiEnterQpi
  /-- `QSPI_EXIT_QPI` (R161), 0x1C. -/
  | qspiExitQpi
  /-- `SWD_INIT` (R200), 0x20. -/
  | swdInit
  /-- `SWD_READ_DP` (R201), 0x21. -/
  | swdReadDp
  /-- `SWD_WRITE_DP` (R202), 0x22. -/
  | swdWriteDp
  /-- `SWD_READ_AP` (R203), 0x23. -/
  | swdReadAp
  /-- `SWD_WRITE_AP` (R204), 0x24. -/
  | swdWriteAp
  /-- `SWD_TURNAROUND` (R185), 0x25. -/
  | swdTurnaround
  /-- `SWD_REQUEST` (R91), the pattern 10ptsrd1 with its five free bits. -/
  | swdRequest (apndp rnw a2 a3 parity : Bool)
  /-- `SWD_HDR_DP_READ_0` (R95), 0xA5. -/
  | swdHdrDpRead0
  /-- `SWD_HDR_DP_READ_4` (R95), 0x8D. -/
  | swdHdrDpRead4
  /-- `SWD_HDR_DP_READ_8` (R95), 0x95. -/
  | swdHdrDpRead8
  /-- `SWD_HDR_DP_READ_C` (R95), 0xBD. -/
  | swdHdrDpReadC
  /-- `SWD_HDR_DP_WRITE_0` (R95), 0x81. -/
  | swdHdrDpWrite0
  /-- `SWD_HDR_DP_WRITE_4` (R95), 0xA9. -/
  | swdHdrDpWrite4
  /-- `SWD_HDR_DP_WRITE_8` (R95), 0xB1. -/
  | swdHdrDpWrite8
  /-- `SWD_HDR_DP_WRITE_C` (R95), 0x99. -/
  | swdHdrDpWriteC
  /-- `SWD_HDR_AP_READ_0` (R95), 0x87. -/
  | swdHdrApRead0
  /-- `SWD_HDR_AP_READ_4` (R95), 0xAF. -/
  | swdHdrApRead4
  /-- `SWD_HDR_AP_READ_8` (R95), 0xB7. -/
  | swdHdrApRead8
  /-- `SWD_HDR_AP_READ_C` (R95), 0x9F. -/
  | swdHdrApReadC
  /-- `SWD_HDR_AP_WRITE_0` (R95), 0xA3. -/
  | swdHdrApWrite0
  /-- `SWD_HDR_AP_WRITE_4` (R95), 0x8B. -/
  | swdHdrApWrite4
  /-- `SWD_HDR_AP_WRITE_8` (R95), 0x93. -/
  | swdHdrApWrite8
  /-- `SWD_HDR_AP_WRITE_C` (R95), 0xBB. -/
  | swdHdrApWriteC
  /-- `SWD_ACK_OK` (R93), 0x1. -/
  | swdAckOk
  /-- `SWD_ACK_BAD_0` (R192), 0x0. -/
  | swdAckBad0
  /-- `SWD_ACK_BAD_2` (R192), 0x2. -/
  | swdAckBad2
  /-- `SWD_ACK_BAD_3` (R192), 0x3. -/
  | swdAckBad3
  /-- `SWD_ACK_BAD_4` (R192), 0x4. -/
  | swdAckBad4
  /-- `SWD_ACK_BAD_5` (R192), 0x5. -/
  | swdAckBad5
  /-- `SWD_ACK_BAD_6` (R192), 0x6. -/
  | swdAckBad6
  /-- `SWD_ACK_BAD_7` (R192), 0x7. -/
  | swdAckBad7
  /-- `QPI_ENTER_BYTE` (R160), 0x38. -/
  | qpiEnterByte
  /-- `QPI_EXIT_BYTE` (R161), 0xFF. -/
  | qpiExitByte
  /-- `QMODE_STANDARD` (R85), 0x0. -/
  | qmodeStandard
  /-- `QMODE_DUAL_OUT` (R85), 0x1. -/
  | qmodeDualOut
  /-- `QMODE_DUAL_IO` (R85), 0x2. -/
  | qmodeDualIo
  /-- `QMODE_QUAD_OUT` (R85), 0x3. -/
  | qmodeQuadOut
  /-- `QMODE_QUAD_IO` (R85), 0x4. -/
  | qmodeQuadIo
  /-- `QMODE_QPI` (R85), 0x5. -/
  | qmodeQpi
deriving DecidableEq, Repr

namespace Instr

/-- The instruction is an operation of the port (30_encoding.md R82), and this is its unit; `none` for a wire
encoding. -/
def unit? : Instr → Option BlockUnit
  | .crcInit => some .crc
  | .crcUpdate => some .crc
  | .crcFinal => some .crc
  | .qspiInit => some .qspi
  | .qspiCsLow => some .qspi
  | .qspiCsHigh => some .qspi
  | .qspiSetMode => some .qspi
  | .qspiGetMode => some .qspi
  | .qspiSendCommand => some .qspi
  | .qspiSendAddress => some .qspi
  | .qspiSendDummy => some .qspi
  | .qspiWriteData => some .qspi
  | .qspiReadData => some .qspi
  | .qspiTransfer => some .qspi
  | .qspiEnterQpi => some .qspi
  | .qspiExitQpi => some .qspi
  | .swdInit => some .swd
  | .swdReadDp => some .swd
  | .swdWriteDp => some .swd
  | .swdReadAp => some .swd
  | .swdWriteAp => some .swd
  | .swdTurnaround => some .swd
  | .swdRequest _ _ _ _ _ => none
  | .swdHdrDpRead0 => none
  | .swdHdrDpRead4 => none
  | .swdHdrDpRead8 => none
  | .swdHdrDpReadC => none
  | .swdHdrDpWrite0 => none
  | .swdHdrDpWrite4 => none
  | .swdHdrDpWrite8 => none
  | .swdHdrDpWriteC => none
  | .swdHdrApRead0 => none
  | .swdHdrApRead4 => none
  | .swdHdrApRead8 => none
  | .swdHdrApReadC => none
  | .swdHdrApWrite0 => none
  | .swdHdrApWrite4 => none
  | .swdHdrApWrite8 => none
  | .swdHdrApWriteC => none
  | .swdAckOk => none
  | .swdAckBad0 => none
  | .swdAckBad2 => none
  | .swdAckBad3 => none
  | .swdAckBad4 => none
  | .swdAckBad5 => none
  | .swdAckBad6 => none
  | .swdAckBad7 => none
  | .qpiEnterByte => none
  | .qpiExitByte => none
  | .qmodeStandard => none
  | .qmodeDualOut => none
  | .qmodeDualIo => none
  | .qmodeQuadOut => none
  | .qmodeQuadIo => none
  | .qmodeQpi => none

/-- The instruction is one of the 22 operations of the port (30_encoding.md R82). -/
def isOperation (i : Instr) : Bool := i.unit?.isSome

/-- The mnemonic of the instruction's row of spec/opcode_table.json (30_encoding.md R82, R99). -/
def mnemonic : Instr → String
  | .crcInit => "CRC_INIT"
  | .crcUpdate => "CRC_UPDATE"
  | .crcFinal => "CRC_FINAL"
  | .qspiInit => "QSPI_INIT"
  | .qspiCsLow => "QSPI_CS_LOW"
  | .qspiCsHigh => "QSPI_CS_HIGH"
  | .qspiSetMode => "QSPI_SET_MODE"
  | .qspiGetMode => "QSPI_GET_MODE"
  | .qspiSendCommand => "QSPI_SEND_COMMAND"
  | .qspiSendAddress => "QSPI_SEND_ADDRESS"
  | .qspiSendDummy => "QSPI_SEND_DUMMY"
  | .qspiWriteData => "QSPI_WRITE_DATA"
  | .qspiReadData => "QSPI_READ_DATA"
  | .qspiTransfer => "QSPI_TRANSFER"
  | .qspiEnterQpi => "QSPI_ENTER_QPI"
  | .qspiExitQpi => "QSPI_EXIT_QPI"
  | .swdInit => "SWD_INIT"
  | .swdReadDp => "SWD_READ_DP"
  | .swdWriteDp => "SWD_WRITE_DP"
  | .swdReadAp => "SWD_READ_AP"
  | .swdWriteAp => "SWD_WRITE_AP"
  | .swdTurnaround => "SWD_TURNAROUND"
  | .swdRequest _ _ _ _ _ => "SWD_REQUEST"
  | .swdHdrDpRead0 => "SWD_HDR_DP_READ_0"
  | .swdHdrDpRead4 => "SWD_HDR_DP_READ_4"
  | .swdHdrDpRead8 => "SWD_HDR_DP_READ_8"
  | .swdHdrDpReadC => "SWD_HDR_DP_READ_C"
  | .swdHdrDpWrite0 => "SWD_HDR_DP_WRITE_0"
  | .swdHdrDpWrite4 => "SWD_HDR_DP_WRITE_4"
  | .swdHdrDpWrite8 => "SWD_HDR_DP_WRITE_8"
  | .swdHdrDpWriteC => "SWD_HDR_DP_WRITE_C"
  | .swdHdrApRead0 => "SWD_HDR_AP_READ_0"
  | .swdHdrApRead4 => "SWD_HDR_AP_READ_4"
  | .swdHdrApRead8 => "SWD_HDR_AP_READ_8"
  | .swdHdrApReadC => "SWD_HDR_AP_READ_C"
  | .swdHdrApWrite0 => "SWD_HDR_AP_WRITE_0"
  | .swdHdrApWrite4 => "SWD_HDR_AP_WRITE_4"
  | .swdHdrApWrite8 => "SWD_HDR_AP_WRITE_8"
  | .swdHdrApWriteC => "SWD_HDR_AP_WRITE_C"
  | .swdAckOk => "SWD_ACK_OK"
  | .swdAckBad0 => "SWD_ACK_BAD_0"
  | .swdAckBad2 => "SWD_ACK_BAD_2"
  | .swdAckBad3 => "SWD_ACK_BAD_3"
  | .swdAckBad4 => "SWD_ACK_BAD_4"
  | .swdAckBad5 => "SWD_ACK_BAD_5"
  | .swdAckBad6 => "SWD_ACK_BAD_6"
  | .swdAckBad7 => "SWD_ACK_BAD_7"
  | .qpiEnterByte => "QPI_ENTER_BYTE"
  | .qpiExitByte => "QPI_EXIT_BYTE"
  | .qmodeStandard => "QMODE_STANDARD"
  | .qmodeDualOut => "QMODE_DUAL_OUT"
  | .qmodeDualIo => "QMODE_DUAL_IO"
  | .qmodeQuadOut => "QMODE_QUAD_OUT"
  | .qmodeQuadIo => "QMODE_QUAD_IO"
  | .qmodeQpi => "QMODE_QPI"

end Instr

end Sys2Proof
end

