-- ==== Sys2Proof/WellFormed.lean ====
section
/-! DEFINITION. Well-formed instructions. The types of `Instr` hold every check but one: the parity operand of the
generic request header is determined by its other four bits (30_encoding.md R92), and a header with another parity
"cannot be produced" (R98). -/

namespace Sys2Proof

/-- The check on an instruction as syntax (30_encoding.md R92, R98). -/
def Instr.wellFormed : Instr → Bool
  | .swdRequest apndp rnw a2 a3 parity => parity == Machine.headerParity apndp rnw a2 a3
  | .crcInit | .crcUpdate | .crcFinal | .qspiInit | .qspiCsLow | .qspiCsHigh | .qspiSetMode | .qspiGetMode
  | .qspiSendCommand | .qspiSendAddress | .qspiSendDummy | .qspiWriteData | .qspiReadData | .qspiTransfer
  | .qspiEnterQpi | .qspiExitQpi | .swdInit | .swdReadDp | .swdWriteDp | .swdReadAp | .swdWriteAp
  | .swdTurnaround | .swdHdrDpRead0 | .swdHdrDpRead4 | .swdHdrDpRead8 | .swdHdrDpReadC | .swdHdrDpWrite0
  | .swdHdrDpWrite4 | .swdHdrDpWrite8 | .swdHdrDpWriteC | .swdHdrApRead0 | .swdHdrApRead4 | .swdHdrApRead8
  | .swdHdrApReadC | .swdHdrApWrite0 | .swdHdrApWrite4 | .swdHdrApWrite8 | .swdHdrApWriteC | .swdAckOk
  | .swdAckBad0 | .swdAckBad2 | .swdAckBad3 | .swdAckBad4 | .swdAckBad5 | .swdAckBad6 | .swdAckBad7
  | .qpiEnterByte | .qpiExitByte | .qmodeStandard | .qmodeDualOut | .qmodeDualIo | .qmodeQuadOut
  | .qmodeQuadIo | .qmodeQpi => true

/-- `i` is a well-formed instruction. -/
abbrev Instr.WellFormed (i : Instr) : Prop := i.wellFormed = true

end Sys2Proof
end

