-- ==== Sys2Proof/Decode.lean ====
section
/-! DEFINITION. The decoder, total on every word and rejecting by name, and after it the encoder, each written from the
tables of 30_encoding.md (R80, R82, R85, R91 to R93, R95, R102) and of spec/opcode_table.json. -/

namespace Sys2Proof

/-! ## The request record of the operation port -/

/-- `OPC = request[71:64]` (30_encoding.md R80). -/
def recordOpc (r : Record) : Byte := r.extractLsb' 64 8

/-- `OP_A = request[63:32]` (30_encoding.md R80). -/
def recordOpA (r : Record) : Word := r.extractLsb' 32 32

/-- `OP_B = request[31:0]` (30_encoding.md R80). -/
def recordOpB (r : Record) : Word := r.extractLsb' 0 32

/-- The code of a unit in `OPC[7:4]`: 0 = CRC, 1 = QSPI, 2 = SWD (30_encoding.md R80). -/
def BlockUnit.code : BlockUnit → BitVec 4
  | .crc => 0#4
  | .qspi => 1#4
  | .swd => 2#4

/-- The record of an operation code and two operands (30_encoding.md R80). -/
def packRecord (opc : Byte) (opA opB : Word) : Record := (opc ++ opA) ++ opB

/-! ## Mode codes -/

/-- The code of a mode (30_encoding.md R85). -/
def Mode.code : Mode → BitVec 3
  | .standard => 0#3
  | .dualOut => 1#3
  | .dualIo => 2#3
  | .quadOut => 3#3
  | .quadIo => 4#3
  | .qpi => 5#3

/-- The mode of a code; 6 and 7 are "not a mode" (30_encoding.md R85). -/
def Mode.ofCode? (c : BitVec 3) : Option Mode :=
  match c with
  | 0#3 => some .standard
  | 1#3 => some .dualOut
  | 2#3 => some .dualIo
  | 3#3 => some .quadOut
  | 4#3 => some .quadIo
  | 5#3 => some .qpi
  | _ => none

/-! ## Decoding -/

/-- Why a word stands for no instruction. -/
inductive Reject
  /-- The operation code is not one of the 22 of 30_encoding.md R82; the port refuses the request (R84). -/
  | undefinedOpcode (opc : Byte)
  /-- A header byte with Start = 0, Stop = 1 or Park = 0 (30_encoding.md R91, R98). -/
  | headerFraming (h : Byte)
  /-- A header byte with the wrong parity (30_encoding.md R92, R98). -/
  | headerParity (h : Byte)
  /-- An acknowledgement has three bits (30_encoding.md R93). -/
  | ackWidth (c : Byte)
  /-- The block itself generates the command bytes `0x38` and `0xFF` only (30_encoding.md R102). -/
  | commandByte (c : Byte)
  /-- Not a mode code (30_encoding.md R85). -/
  | modeCode (c : Byte)
deriving DecidableEq, Repr

/-- The operation of an operation code (30_encoding.md R82, R84); nothing else of a request is read
(20_memory.md R68). -/
def decodeOpcode (opc : Byte) : Except Reject Instr :=
  match opc with
  | 0x01#8 => .ok .crcInit
  | 0x02#8 => .ok .crcUpdate
  | 0x03#8 => .ok .crcFinal
  | 0x10#8 => .ok .qspiInit
  | 0x11#8 => .ok .qspiCsLow
  | 0x12#8 => .ok .qspiCsHigh
  | 0x13#8 => .ok .qspiSetMode
  | 0x14#8 => .ok .qspiGetMode
  | 0x15#8 => .ok .qspiSendCommand
  | 0x16#8 => .ok .qspiSendAddress
  | 0x17#8 => .ok .qspiSendDummy
  | 0x18#8 => .ok .qspiWriteData
  | 0x19#8 => .ok .qspiReadData
  | 0x1A#8 => .ok .qspiTransfer
  | 0x1B#8 => .ok .qspiEnterQpi
  | 0x1C#8 => .ok .qspiExitQpi
  | 0x20#8 => .ok .swdInit
  | 0x21#8 => .ok .swdReadDp
  | 0x22#8 => .ok .swdWriteDp
  | 0x23#8 => .ok .swdReadAp
  | 0x24#8 => .ok .swdWriteAp
  | 0x25#8 => .ok .swdTurnaround
  | _ => .error (.undefinedOpcode opc)

/-- Start = 1, Stop = 0, Park = 1 (30_encoding.md R91). -/
def headerFramed (h : Byte) : Bool := h &&& 0xC1#8 == 0x81#8

/-- The generic request header: bit 1 APnDP, bit 2 RnW, bit 3 A2, bit 4 A3, bit 5 parity (30_encoding.md R91, R92). -/
def decodeRequestPattern (h : Byte) : Except Reject Instr :=
  if !headerFramed h then .error (.headerFraming h)
  else if h.getLsbD 5 != Machine.headerParity (h.getLsbD 1) (h.getLsbD 2) (h.getLsbD 3) (h.getLsbD 4) then
    .error (.headerParity h)
  else .ok (.swdRequest (h.getLsbD 1) (h.getLsbD 2) (h.getLsbD 3) (h.getLsbD 4) (h.getLsbD 5))

/-- The sixteen request headers by value (30_encoding.md R95). -/
def decodeHeaderByte (h : Byte) : Except Reject Instr :=
  match h with
  | 0xA5#8 => .ok .swdHdrDpRead0
  | 0x8D#8 => .ok .swdHdrDpRead4
  | 0x95#8 => .ok .swdHdrDpRead8
  | 0xBD#8 => .ok .swdHdrDpReadC
  | 0x81#8 => .ok .swdHdrDpWrite0
  | 0xA9#8 => .ok .swdHdrDpWrite4
  | 0xB1#8 => .ok .swdHdrDpWrite8
  | 0x99#8 => .ok .swdHdrDpWriteC
  | 0x87#8 => .ok .swdHdrApRead0
  | 0xAF#8 => .ok .swdHdrApRead4
  | 0xB7#8 => .ok .swdHdrApRead8
  | 0x9F#8 => .ok .swdHdrApReadC
  | 0xA3#8 => .ok .swdHdrApWrite0
  | 0x8B#8 => .ok .swdHdrApWrite4
  | 0x93#8 => .ok .swdHdrApWrite8
  | 0xBB#8 => .ok .swdHdrApWriteC
  | _ => if headerFramed h then .error (.headerParity h) else .error (.headerFraming h)

/-- The eight acknowledgement values, three bits (30_encoding.md R93, 42_swd.md R192). -/
def decodeAck (c : Byte) : Except Reject Instr :=
  match c with
  | 0x1#8 => .ok .swdAckOk
  | 0x0#8 => .ok .swdAckBad0
  | 0x2#8 => .ok .swdAckBad2
  | 0x3#8 => .ok .swdAckBad3
  | 0x4#8 => .ok .swdAckBad4
  | 0x5#8 => .ok .swdAckBad5
  | 0x6#8 => .ok .swdAckBad6
  | 0x7#8 => .ok .swdAckBad7
  | _ => .error (.ackWidth c)

/-- The command bytes the block generates (30_encoding.md R102). -/
def decodeCommandByte (c : Byte) : Except Reject Instr :=
  match c with
  | 0x38#8 => .ok .qpiEnterByte
  | 0xFF#8 => .ok .qpiExitByte
  | _ => .error (.commandByte c)

/-- The mode codes (30_encoding.md R85). -/
def decodeModeCode (c : Byte) : Except Reject Instr :=
  match c with
  | 0x0#8 => .ok .qmodeStandard
  | 0x1#8 => .ok .qmodeDualOut
  | 0x2#8 => .ok .qmodeDualIo
  | 0x3#8 => .ok .qmodeQuadOut
  | 0x4#8 => .ok .qmodeQuadIo
  | 0x5#8 => .ok .qmodeQpi
  | _ => .error (.modeCode c)

/-- A code in its encoding space. -/
def decodeWire (f : WireFormat) (c : Byte) : Except Reject Instr :=
  match f with
  | .swdRequest => decodeRequestPattern c
  | .swdHeader => decodeHeaderByte c
  | .swdAck => decodeAck c
  | .qspiCmdByte => decodeCommandByte c
  | .qmode => decodeModeCode c

/-- The decoder: total, and rejecting by name. -/
def decode : PortWord → Except Reject Instr
  | .request r => decodeOpcode (recordOpc r)
  | .wire f c => decodeWire f c

/-! ## Encoding -/

/-- The header byte of its five free bits: `0x81 | (apndp << 1) | (rnw << 2) | (a2 << 3) | (a3 << 4) | (p << 5)`
(30_encoding.md R91). -/
def headerBits (apndp rnw a2 a3 parity : Level) : Byte :=
  0x81#8 ||| ((BitVec.ofBool apndp).setWidth 8 <<< 1) ||| ((BitVec.ofBool rnw).setWidth 8 <<< 2)
    ||| ((BitVec.ofBool a2).setWidth 8 <<< 3) ||| ((BitVec.ofBool a3).setWidth 8 <<< 4)
    ||| ((BitVec.ofBool parity).setWidth 8 <<< 5)

/-- Where an instruction's code lies and what it is: `none` for the operation port (30_encoding.md R82), else the
encoding space (R85, R91, R93, R95, R102). -/
def codeOf : Instr → Option WireFormat × Byte
  | .crcInit => (none, 0x01#8)
  | .crcUpdate => (none, 0x02#8)
  | .crcFinal => (none, 0x03#8)
  | .qspiInit => (none, 0x10#8)
  | .qspiCsLow => (none, 0x11#8)
  | .qspiCsHigh => (none, 0x12#8)
  | .qspiSetMode => (none, 0x13#8)
  | .qspiGetMode => (none, 0x14#8)
  | .qspiSendCommand => (none, 0x15#8)
  | .qspiSendAddress => (none, 0x16#8)
  | .qspiSendDummy => (none, 0x17#8)
  | .qspiWriteData => (none, 0x18#8)
  | .qspiReadData => (none, 0x19#8)
  | .qspiTransfer => (none, 0x1A#8)
  | .qspiEnterQpi => (none, 0x1B#8)
  | .qspiExitQpi => (none, 0x1C#8)
  | .swdInit => (none, 0x20#8)
  | .swdReadDp => (none, 0x21#8)
  | .swdWriteDp => (none, 0x22#8)
  | .swdReadAp => (none, 0x23#8)
  | .swdWriteAp => (none, 0x24#8)
  | .swdTurnaround => (none, 0x25#8)
  | .swdRequest apndp rnw a2 a3 parity => (some .swdRequest, headerBits apndp rnw a2 a3 parity)
  | .swdHdrDpRead0 => (some .swdHeader, 0xA5#8)
  | .swdHdrDpRead4 => (some .swdHeader, 0x8D#8)
  | .swdHdrDpRead8 => (some .swdHeader, 0x95#8)
  | .swdHdrDpReadC => (some .swdHeader, 0xBD#8)
  | .swdHdrDpWrite0 => (some .swdHeader, 0x81#8)
  | .swdHdrDpWrite4 => (some .swdHeader, 0xA9#8)
  | .swdHdrDpWrite8 => (some .swdHeader, 0xB1#8)
  | .swdHdrDpWriteC => (some .swdHeader, 0x99#8)
  | .swdHdrApRead0 => (some .swdHeader, 0x87#8)
  | .swdHdrApRead4 => (some .swdHeader, 0xAF#8)
  | .swdHdrApRead8 => (some .swdHeader, 0xB7#8)
  | .swdHdrApReadC => (some .swdHeader, 0x9F#8)
  | .swdHdrApWrite0 => (some .swdHeader, 0xA3#8)
  | .swdHdrApWrite4 => (some .swdHeader, 0x8B#8)
  | .swdHdrApWrite8 => (some .swdHeader, 0x93#8)
  | .swdHdrApWriteC => (some .swdHeader, 0xBB#8)
  | .swdAckOk => (some .swdAck, 0x1#8)
  | .swdAckBad0 => (some .swdAck, 0x0#8)
  | .swdAckBad2 => (some .swdAck, 0x2#8)
  | .swdAckBad3 => (some .swdAck, 0x3#8)
  | .swdAckBad4 => (some .swdAck, 0x4#8)
  | .swdAckBad5 => (some .swdAck, 0x5#8)
  | .swdAckBad6 => (some .swdAck, 0x6#8)
  | .swdAckBad7 => (some .swdAck, 0x7#8)
  | .qpiEnterByte => (some .qspiCmdByte, 0x38#8)
  | .qpiExitByte => (some .qspiCmdByte, 0xFF#8)
  | .qmodeStandard => (some .qmode, 0x0#8)
  | .qmodeDualOut => (some .qmode, 0x1#8)
  | .qmodeDualIo => (some .qmode, 0x2#8)
  | .qmodeQuadOut => (some .qmode, 0x3#8)
  | .qmodeQuadIo => (some .qmode, 0x4#8)
  | .qmodeQpi => (some .qmode, 0x5#8)

/-- The encoder: the word of an instruction, with the two operands of its request; a wire encoding has no operand and
ignores them (30_encoding.md R80). -/
def encode (i : Instr) (opA opB : Word) : PortWord :=
  match codeOf i with
  | (none, opc) => .request (packRecord opc opA opB)
  | (some f, c) => .wire f c

/-! ## Words numbered as spec/opcode_table.json numbers them -/

/-- The word a row of the opcode table stands for, its bits numbered as the table numbers them (log 8). Up to eight bits
are the code of a row: an operation code where R82 defines it (operands 0), else a request header, a command byte of
the block, an acknowledgement, each where it is one, else the undefined operation code. More bits are a request
record: byte 0 the operation code, bytes 1 to 4 `OP_A`, bytes 5 to 8 `OP_B`, each most significant byte first. -/
def tableWord (nbits w : Nat) : PortWord :=
  let byte (k : Nat) : Byte := BitVec.ofNat 8 (w / 2 ^ (8 * k))
  if nbits ≤ 8 then
    match decodeOpcode (byte 0), decodeHeaderByte (byte 0), decodeCommandByte (byte 0), decodeAck (byte 0) with
    | .ok _, _, _, _ => .request (packRecord (byte 0) 0 0)
    | _, .ok _, _, _ => .wire .swdHeader (byte 0)
    | _, _, .ok _, _ => .wire .qspiCmdByte (byte 0)
    | _, _, _, .ok _ => .wire .swdAck (byte 0)
    | _, _, _, _ => .request (packRecord (byte 0) 0 0)
  else
    .request (packRecord (byte 0) (byte 1 ++ byte 2 ++ byte 3 ++ byte 4) (byte 5 ++ byte 6 ++ byte 7 ++ byte 8))

/-- The instruction the decoder reads from a word numbered as spec/opcode_table.json numbers it (log 8). -/
def decodeTableWord (nbits w : Nat) : Option Instr := (decode (tableWord nbits w)).toOption

end Sys2Proof
end

