-- ==== Sys2Proof/Machine/State.lean ====
section
/-! DEFINITION. The state: the block exactly as 10_state.md R20 lists it, and around it, as plain data, what the
outside supplies (the caller's inputs, the environment's levels) and what is observed on the pins (the wire trace).
The three outcomes' reasons. The state after reset. -/

namespace Sys2Proof.Machine

/-- The direction of a pin: `IN` (0, released) or `OUT` (1, driven) (10_state.md R31). -/
inductive Dir
  | input | output
deriving DecidableEq, Repr

/-- A pin: its direction and the level the block drives when the direction is `OUT`, kept while the pin is released
(10_state.md R31). -/
@[ext]
structure Pin where
  dir : Dir
  out : Level
deriving DecidableEq, Repr

/-- The four data lanes of the QSPI engine, `QIO[0]` to `QIO[3]` (10_state.md R32). -/
@[ext]
structure Lanes where
  io0 : Pin
  io1 : Pin
  io2 : Pin
  io3 : Pin
deriving DecidableEq, Repr

/-- One event of the wire trace (00_scope.md R13). The two alphabets stand in one type, because the order of pin events
is total over both engines (20_memory.md R64); both call the pulse with nothing driven `Z`, here `z` and `swdZ`. -/
inductive Event
  /-- `CS0`: `QCS` driven low. -/
  | cs0
  /-- `CS1`: `QCS` driven high. -/
  | cs1
  /-- `W1(b)`: one pulse, `QIO[0]` driven to b. -/
  | w1 (b : Level)
  /-- `W2(xy)`: one pulse, `QIO[1]` driven to x, `QIO[0]` to y. -/
  | w2 (x y : Level)
  /-- `W4(h)`: one pulse, `QIO[k]` driven to bit k of h. -/
  | w4 (h : BitVec 4)
  /-- `R1(b)`: one pulse, `QIO[1]` sampled. -/
  | r1 (b : Level)
  /-- `R2(xy)`: one pulse, `QIO[1]` and `QIO[0]` sampled. -/
  | r2 (x y : Level)
  /-- `R4(h)`: one pulse, the four lanes sampled. -/
  | r4 (h : BitVec 4)
  /-- `X1(o,i)`: one pulse, `QIO[0]` driven to o, `QIO[1]` sampled. -/
  | x1 (o i : Level)
  /-- `Z` of the QSPI alphabet: one pulse, the four lanes released. -/
  | z
  /-- `H0`, `H1`: one SWD cycle, the block drives `SWDIO`. -/
  | h (b : Level)
  /-- `T0`, `T1`: one SWD cycle, `SWDIO` released and sampled. -/
  | t (b : Level)
  /-- `Z` of the SWD alphabet: one cycle, `SWDIO` released (turnaround). -/
  | swdZ
deriving DecidableEq, Repr

/-- The complete state of the block, "and nothing else" (10_state.md R20). -/
@[ext]
structure Block where
  /-- `OP_A`: first operand of the current operation, written by the caller (R23). -/
  opA : Word
  /-- `OP_B`: second operand (R23). -/
  opB : Word
  /-- `RES`: result of the last completed operation. -/
  res : Word
  /-- `STATUS`: 0 = OK, 1 = FAIL, of the last completed operation (R26). -/
  status : BitVec 1
  /-- `CRC_ACC`: running CRC accumulator (R27). -/
  crcAcc : Word
  /-- `QMODE`: the session mode (R30). -/
  qmode : Mode
  /-- `QCS`: chip select, active low (R32). -/
  qcs : Pin
  /-- `QCLK`: the QSPI clock (R32). -/
  qclk : Pin
  /-- `QIO[0..3]`: the data lanes (R32). -/
  qio : Lanes
  /-- `SWCLK`: the SWD clock (R35). -/
  swclk : Pin
  /-- `SWDIO`: the SWD data line (R35). -/
  swdio : Pin
deriving DecidableEq, Repr

/-- The block and, around it, the outside: these further fields are the model's own and no state of the block
(logs 2, 3, 5). -/
@[ext]
structure State extends Block where
  /-- What the outside does next, oldest first: the caller's requests, reset events (log 2). -/
  inbox : List Input
  /-- The levels the environment has ready for the next samples, in sampling order (20_memory.md R56; log 3). -/
  answers : List Level
  /-- The number of the next sample that `answers` does not supply: the argument of `Config.freeLevel` (log 3). -/
  sampleNo : Nat
  /-- The wire trace, oldest event first (00_scope.md R13; log 5). -/
  trace : List Event
deriving DecidableEq, Repr

/-- Why the machine stops with a fault. The block itself "raises no exception, trap or fault" (60_exceptions.md R230);
a failing operation is a next state with STATUS = 1. -/
inductive Fault
  /-- Raised by the step alone, when its wire port is handed a code that the block can neither hold nor put on a wire
  (30_encoding.md R98 "cannot be produced", 10_state.md R30 "can never be held"). Safe: no request of the caller
  reaches it (log 11). -/
  | unproducibleWord (reason : Reject)
deriving DecidableEq, Repr

/-- Why an instruction is refused. -/
inductive Refusal
  /-- Raised by an arm of `exec` for an instruction without a meaning; no arm of this model raises it. Safe. -/
  | notModelled (mnemonic : String)
deriving DecidableEq, Repr

/-- A pin after reset: released, level 0 (10_state.md R33, R35, R40). -/
def Pin.reset : Pin := { dir := .input, out := false }

/-- The block after reset (10_state.md R40). `OP_A` and `OP_B` are "unspecified" there: zero is a DESIGN CHOICE
(log 1). -/
def Block.reset : Block where
  opA := 0
  opB := 0
  res := 0
  status := 0
  crcAcc := Config.crcInitValue
  qmode := .standard
  qcs := Pin.reset
  qclk := Pin.reset
  qio := { io0 := Pin.reset, io1 := Pin.reset, io2 := Pin.reset, io3 := Pin.reset }
  swclk := Pin.reset
  swdio := Pin.reset

/-- The machine right after reset (10_state.md R40, 70_reset_and_hazards.md R260): the block reset, nothing asked of it,
nothing seen of it (the model's own fields: DESIGN CHOICE, log 4). -/
def State.reset : State where
  toBlock := Block.reset
  inbox := []
  answers := []
  sampleNo := 0
  trace := []

end Sys2Proof.Machine
end

