-- ==== Sys2Proof/Machine/Operands.lean ====
section
/-! DEFINITION. The operand forms: which bits of `OP_A` and `OP_B` an operation reads (30_encoding.md R83), the widths a
mode gives its phases (R86), and the words an SWD access is assembled from (R91, R97; 20_memory.md R53, R54). -/

namespace Sys2Proof.Machine

/-! ## Operand bits (30_encoding.md R83) -/

/-- A byte operand is `OP_A[7:0]`; the upper 24 bits are ignored. -/
def opByte (opA : Word) : Byte := opA.extractLsb' 0 8

/-- A DP register address contributes `OP_A[3:2]` only. -/
def opDpAddr (opA : Word) : BitVec 2 := opA.extractLsb' 2 2

/-- The AP select is `OP_A[15:8]`. -/
def opApSel (opA : Word) : Byte := opA.extractLsb' 8 8

/-- An AP register address is `OP_A[7:0]`. -/
def opApAddr (opA : Word) : Byte := opA.extractLsb' 0 8

/-- Bits A[3:2] of a register's byte address: bits 1 and 0 "are not transmitted" (20_memory.md R53). -/
def headerAddr (addr : Byte) : BitVec 2 := addr.extractLsb' 2 2

/-- The mode code `OP_A[2:0]` (41_qspi.md R143). -/
def opModeCode (opA : Word) : BitVec 3 := opA.extractLsb' 0 3

/-- The bits of `OP_A` and of `OP_B` that an operation reads, as masks; "bits it does not read are ignored" (30_encoding.md
R83, 10_state.md R23). Of the flash address, the top byte is read only when the length is 4 (R90). -/
def operandMask : Instr → Word × Word
  | .crcUpdate => (0xFF#32, 0#32)
  | .qspiSetMode => (0xFFFFFFFF#32, 0#32)
  | .qspiSendCommand => (0xFF#32, 0#32)
  | .qspiSendAddress => (0xFFFFFFFF#32, 0xFFFFFFFF#32)
  | .qspiSendDummy => (0xFFFFFFFF#32, 0#32)
  | .qspiWriteData => (0xFF#32, 0#32)
  | .qspiTransfer => (0xFF#32, 0#32)
  | .swdReadDp => (0xC#32, 0#32)
  | .swdWriteDp => (0xC#32, 0xFFFFFFFF#32)
  | .swdReadAp => (0xFFFC#32, 0#32)
  | .swdWriteAp => (0xFFFC#32, 0xFFFFFFFF#32)
  | .crcInit | .crcFinal | .qspiInit | .qspiCsLow | .qspiCsHigh | .qspiGetMode | .qspiReadData
  | .qspiEnterQpi | .qspiExitQpi | .swdInit | .swdTurnaround | .swdRequest _ _ _ _ _ | .swdHdrDpRead0
  | .swdHdrDpRead4 | .swdHdrDpRead8 | .swdHdrDpReadC | .swdHdrDpWrite0 | .swdHdrDpWrite4 | .swdHdrDpWrite8
  | .swdHdrDpWriteC | .swdHdrApRead0 | .swdHdrApRead4 | .swdHdrApRead8 | .swdHdrApReadC | .swdHdrApWrite0
  | .swdHdrApWrite4 | .swdHdrApWrite8 | .swdHdrApWriteC | .swdAckOk | .swdAckBad0 | .swdAckBad2
  | .swdAckBad3 | .swdAckBad4 | .swdAckBad5 | .swdAckBad6 | .swdAckBad7 | .qpiEnterByte | .qpiExitByte
  | .qmodeStandard | .qmodeDualOut | .qmodeDualIo | .qmodeQuadOut | .qmodeQuadIo | .qmodeQpi => (0#32, 0#32)

/-! ## Widths of the phases (30_encoding.md R86) -/

/-- The number of lanes a phase uses: 1, 2 or 4 (00_scope.md glossary, "width"). -/
inductive Width
  | one | two | four
deriving DecidableEq, Repr

/-- A width as a number. -/
def Width.lanes : Width → Nat
  | .one => 1
  | .two => 2
  | .four => 4

/-- `cmdw`: one bit wide "in all modes except QPI". -/
def cmdw : Mode → Width
  | .standard => .one
  | .dualOut => .one
  | .dualIo => .one
  | .quadOut => .one
  | .quadIo => .one
  | .qpi => .four

/-- `addrw`: "1 wire for *_OUT modes, 2 wires for DUAL_IO, 4 wires for QUAD_IO/QPI", and 1 wire for STANDARD. -/
def addrw : Mode → Width
  | .standard => .one
  | .dualOut => .one
  | .dualIo => .two
  | .quadOut => .one
  | .quadIo => .four
  | .qpi => .four

/-- `dataw`. -/
def dataw : Mode → Width
  | .standard => .one
  | .dualOut => .two
  | .dualIo => .two
  | .quadOut => .four
  | .quadIo => .four
  | .qpi => .four

/-! ## SWD words -/

/-- `header(apndp, rnw, a)`: the request byte of an access, `a` being A[3:2], with its parity (30_encoding.md R91, R92;
42_swd.md R188). -/
def header (apndp rnw : Level) (a : BitVec 2) : Byte :=
  headerBits apndp rnw (a.getLsbD 0) (a.getLsbD 1) (headerParity apndp rnw (a.getLsbD 0) (a.getLsbD 1))

/-- The byte address of the Debug Port register IDCODE (20_memory.md R54). -/
def dpIdcode : Byte := 0x0#8

/-- The byte address of the Debug Port register SELECT (20_memory.md R54). -/
def dpSelect : Byte := 0x8#8

/-- The byte address of the Debug Port register RDBUFF (20_memory.md R54). -/
def dpRdbuff : Byte := 0xC#8

/-- The header of the IDCODE read that `init()` sends (42_swd.md R200). -/
def idcodeReadHeader : Byte := 0xA5#8

/-- The "fixed request byte" of a SELECT write (42_swd.md R203, R204). -/
def selectWriteHeader : Byte := 0xB1#8

/-- The header of an RDBUFF read (42_swd.md R203). -/
def rdbuffReadHeader : Byte := 0xBD#8

/-- `sel = (zext_32(apsel) << 24) | zext_32(addr & 0xF0)` (30_encoding.md R97). -/
def selectValue (apsel addr : Byte) : Word :=
  (apsel.setWidth 32 <<< 24) ||| (addr &&& 0xF0#8).setWidth 32

end Sys2Proof.Machine
end

