-- ==== Sys2Proof/Machine/Ops.lean ====
section
/-! DEFINITION. The shared operations: the writes of the registers and pins, the wire trace, the environment, and the
three ways an operation ends (in the place of taking an exception: 60_exceptions.md R230, R237). -/

namespace Sys2Proof.Machine

/-! ## How an operation ends (30_encoding.md R81) -/

/-- `return OK(v)`: STATUS <- 0, RES <- v. -/
def returnValue (v : Word) (s : State) : State := { s with status := 0#1, res := v }

/-- `return OK`: STATUS <- 0, RES <- 0. -/
def returnOk (s : State) : State := returnValue 0 s

/-- `return FAIL`: STATUS <- 1, RES <- 0, and nothing else: no cause is recorded, no control is transferred
(60_exceptions.md R230, R232, R237). -/
def returnFail (s : State) : State := { s with status := 1#1, res := 0 }

/-! ## Observation and time -/

/-- `emit(e)`: the event is appended to the wire trace (00_scope.md R12, R13). -/
def emit (e : Event) (s : State) : State := { s with trace := s.trace ++ [e] }

/-- `delay(d)` waits; "no rule's result depends on it" (00_scope.md R12, 70_reset_and_hazards.md R290; log 10). -/
def delay (_d : Nat) (s : State) : State := s

/-! ## The environment (20_memory.md R56) -/

/-- The level the environment will present at the k-th sample from here, k = 0 the next one: what it has ready, and
after that a free value (log 3). -/
def levelAt (s : State) (k : Nat) : Level :=
  s.answers.getD k (Config.freeLevel (s.sampleNo + (k - s.answers.length)))

/-- The environment has presented n levels. -/
def consume (n : Nat) (s : State) : State :=
  { s with answers := s.answers.drop n, sampleNo := s.sampleNo + (n - s.answers.length) }

/-- The next level of the environment. -/
def nextLevel (s : State) : Level × State := (levelAt s 0, consume 1 s)

/-- `sample(P)`: the level driven when `P.dir == OUT`, else a free input of the environment (00_scope.md R12). -/
def samplePin (p : Pin) (s : State) : Level × State :=
  match p.dir with
  | .output => (p.out, s)
  | .input => nextLevel s

/-! ## Pins (00_scope.md R12, 10_state.md R31) -/

/-- `P.out <- v ; P.dir <- OUT`. -/
def Pin.drive (v : Level) : Pin := { dir := .output, out := v }

/-- `P.dir <- IN`: the level is kept and takes effect when the pin is next driven. -/
def Pin.release (p : Pin) : Pin := { p with dir := .input }

/-- The data lanes by name (10_state.md R32). -/
inductive Lane
  | io0 | io1 | io2 | io3
deriving DecidableEq, Repr

/-- The pin of a lane. -/
def lane (k : Lane) (s : State) : Pin :=
  match k with
  | .io0 => s.qio.io0
  | .io1 => s.qio.io1
  | .io2 => s.qio.io2
  | .io3 => s.qio.io3

/-- A lane's pin written, the other lanes untouched. -/
def setLane (k : Lane) (p : Pin) (s : State) : State :=
  match k with
  | .io0 => { s with qio := { s.qio with io0 := p } }
  | .io1 => { s with qio := { s.qio with io1 := p } }
  | .io2 => { s with qio := { s.qio with io2 := p } }
  | .io3 => { s with qio := { s.qio with io3 := p } }

/-- `QIO[k].out <- v ; QIO[k].dir <- OUT`. -/
def driveLane (k : Lane) (v : Level) (s : State) : State := setLane k (Pin.drive v) s

/-- `QIO[k].dir <- IN`. -/
def releaseLane (k : Lane) (s : State) : State := setLane k (lane k s).release s

/-- `for k = 0 to 3: QIO[k].dir <- IN`. -/
def releaseLanes (s : State) : State :=
  releaseLane .io3 (releaseLane .io2 (releaseLane .io1 (releaseLane .io0 s)))

/-- `sample(QIO[k])`. -/
def sampleLane (k : Lane) (s : State) : Level × State := samplePin (lane k s) s

end Sys2Proof.Machine
end

