-- ==== Sys2Proof/Machine/Qspi.lean ====
section
/-! DEFINITION. The QSPI engine (41_qspi.md): the pulse, the six shift sequences, the thirteen operations. -/

namespace Sys2Proof.Machine

/-! ## The pulse (R131) -/

/-- `QCLK.dir <- OUT`. -/
def qclkDriven (s : State) : State := { s with qclk := { s.qclk with dir := .output } }

/-- `QCLK.out <- v ; delay(QSPI_DELAY)`. -/
def qclkEdge (v : Level) (s : State) : State :=
  delay Config.qspiDelay { s with qclk := { s.qclk with out := v } }

/-- `qpulse()`: the clock driven, high, low. -/
def qpulse (s : State) : State := qclkEdge false (qclkEdge true (qclkDriven s))

/-- `qpulse_sample(lanes)`: the lanes are sampled "while QCLK is high, before the falling edge". -/
def qpulseSample {α : Type} (sampleLanes : State → α × State) (s : State) : α × State :=
  let (v, s) := sampleLanes (qclkEdge true (qclkDriven s))
  (v, qclkEdge false s)

/-- `sample(QIO[1], QIO[0])`, in the order the rule lists the lanes (R136; log 3). -/
def samplePair (s : State) : (Level × Level) × State :=
  let (x, s) := sampleLane .io1 s
  let (y, s) := sampleLane .io0 s
  ((x, y), s)

/-- A nibble from its four bits, the most significant first. -/
def nibbleOfLevels (b3 b2 b1 b0 : Level) : BitVec 4 :=
  putBit (putBit (putBit (putBit 0 3 b3) 2 b2) 1 b1) 0 b0

/-- `sample(QIO[3], QIO[2], QIO[1], QIO[0])`, bit k of the nibble from `QIO[k]` (R137; log 3). -/
def sampleNibble (s : State) : BitVec 4 × State :=
  let (b3, s) := sampleLane .io3 s
  let (b2, s) := sampleLane .io2 s
  let (b1, s) := sampleLane .io1 s
  let (b0, s) := sampleLane .io0 s
  (nibbleOfLevels b3 b2 b1 b0, s)

/-! ## The shift sequences (R132 to R139) -/

/-- `tx1(b)`: 8 pulses on `QIO[0]`, bit 7 first (R132). -/
def tx1 (b : Byte) (s : State) : State :=
  loop 8 (fun j s => emit (.w1 (b.getLsbD (7 - j))) (qpulse (driveLane .io0 (b.getLsbD (7 - j)) s))) s

/-- `tx2(b)`: 4 pulses on `QIO[1:0]`, the most significant pair first (R133). -/
def tx2 (b : Byte) (s : State) : State :=
  loop 4 (fun j s =>
    let x := b.getLsbD (7 - 2 * j)
    let y := b.getLsbD (6 - 2 * j)
    emit (.w2 x y) (qpulse (driveLane .io0 y (driveLane .io1 x s)))) s

/-- The four lanes driven to the bits of a nibble, `QIO[k]` to bit k (R134). -/
def driveNibble (nib : BitVec 4) (s : State) : State :=
  driveLane .io3 (nib.getLsbD 3) (driveLane .io2 (nib.getLsbD 2)
    (driveLane .io1 (nib.getLsbD 1) (driveLane .io0 (nib.getLsbD 0) s)))

/-- `tx4(b)`: 2 pulses on `QIO[3:0]`, the high nibble first (R134). -/
def tx4 (b : Byte) (s : State) : State :=
  loop 2 (fun j s => emit (.w4 (nibbleOf b j)) (qpulse (driveNibble (nibbleOf b j) s))) s

/-- `rx1()`: 8 pulses, `QIO[1]` sampled, bit 7 first (R135). -/
def rx1 (s : State) : Byte × State :=
  loop 8 (fun j rs =>
    let (v, s) := qpulseSample (sampleLane .io1) rs.2
    (putBit rs.1 (7 - j) v, emit (.r1 v) s)) (0, releaseLane .io1 s)

/-- `rx2()`: 4 pulses, `QIO[1]` and `QIO[0]` sampled (R136). -/
def rx2 (s : State) : Byte × State :=
  loop 4 (fun j rs =>
    let (xy, s) := qpulseSample samplePair rs.2
    (putBit (putBit rs.1 (7 - 2 * j) xy.1) (6 - 2 * j) xy.2, emit (.r2 xy.1 xy.2) s))
    (0, releaseLane .io0 (releaseLane .io1 s))

/-- `rx4()`: 2 pulses, the four lanes sampled, the high nibble first (R137). -/
def rx4 (s : State) : Byte × State :=
  loop 2 (fun j rs =>
    let (nib, s) := qpulseSample sampleNibble rs.2
    (rs.1 ||| (nib.setWidth 8 <<< (4 - 4 * j)), emit (.r4 nib) s)) (0, releaseLanes s)

/-- `txw(w, b)` (R139). -/
def txw (w : Width) (b : Byte) (s : State) : State :=
  match w with
  | .one => tx1 b s
  | .two => tx2 b s
  | .four => tx4 b s

/-- `rxw(w)` (R139). -/
def rxw (w : Width) (s : State) : Byte × State :=
  match w with
  | .one => rx1 s
  | .two => rx2 s
  | .four => rx4 s

/-- `for j = n-1 downto 0: txw(w, addr[8j+7 : 8j])`: an address, most significant byte first (R151; 30_encoding.md
R90). -/
def txAddress (w : Width) (n : Nat) (addr : Word) (s : State) : State :=
  loop n (fun j s => txw w (byteOf addr (n - 1 - j)) s) s

/-- `repeat n times: qpulse() ; emit(Z)` (R152). -/
def dummyPulses (n : Nat) (s : State) : State := loop n (fun _ s => emit .z (qpulse s)) s

/-- The full-duplex loop of `transfer`: 8 pulses, `QIO[0]` driven and `QIO[1]` sampled (R155). -/
def transferByte (b : Byte) (s : State) : Byte × State :=
  loop 8 (fun j rs =>
    let (v, s) := qpulseSample (sampleLane .io1) (driveLane .io0 (b.getLsbD (7 - j)) rs.2)
    (putBit rs.1 (7 - j) v, emit (.x1 (b.getLsbD (7 - j)) v) s)) (0, releaseLane .io1 s)

/-! ## Set-up operations (R140 to R144) -/

/-- `QCS.out <- v ; QCS.dir <- OUT` and its event (R140 to R142). -/
def driveQcs (v : Level) (s : State) : State :=
  emit (if v then .cs1 else .cs0) { s with qcs := Pin.drive v }

/-- `QSPI_INIT` (R140): deselected, the clock low, the lanes released; `QMODE` is not written. -/
def execQspiInit (s : State) : Host.Outcome State Fault Refusal :=
  .next (returnOk (releaseLanes { driveQcs true s with qclk := Pin.drive false }))

/-- `QSPI_CS_LOW` (R141). -/
def execQspiCsLow (s : State) : Host.Outcome State Fault Refusal := .next (returnOk (driveQcs false s))

/-- `QSPI_CS_HIGH` (R142). -/
def execQspiCsHigh (s : State) : Host.Outcome State Fault Refusal := .next (returnOk (driveQcs true s))

/-- `QMODE <- m`. -/
def setMode (m : Mode) (s : State) : State := { s with qmode := m }

/-- `QSPI_SET_MODE` (R143): a code above 5 is refused (F2). Below it every code has its mode, so the last case is never
taken. -/
def execQspiSetMode (s : State) : Host.Outcome State Fault Refusal :=
  .next (if s.opA > 5#32 then returnFail s
    else match Mode.ofCode? (opModeCode s.opA) with
      | some m => returnOk (setMode m s)
      | none => returnFail s)

/-- `QSPI_GET_MODE` (R144). -/
def execQspiGetMode (s : State) : Host.Outcome State Fault Refusal :=
  .next (returnValue (s.qmode.code.setWidth 32) s)

/-! ## Phase operations (R150 to R155) -/

/-- `QSPI_SEND_COMMAND` (R150). -/
def execQspiSendCommand (s : State) : Host.Outcome State Fault Refusal :=
  .next (returnOk (txw (cmdw s.qmode) (opByte s.opA) s))

/-- `QSPI_SEND_ADDRESS` (R151): a length other than 3 or 4 is refused with no pulse (F3). -/
def execQspiSendAddress (s : State) : Host.Outcome State Fault Refusal :=
  .next (if s.opB ≠ 3#32 ∧ s.opB ≠ 4#32 then returnFail s
    else returnOk (txAddress (addrw s.qmode) s.opB.toNat s.opA s))

/-- `QSPI_SEND_DUMMY` (R152): the lanes are released, then `OP_A` pulses. -/
def execQspiSendDummy (s : State) : Host.Outcome State Fault Refusal :=
  .next (returnOk (dummyPulses s.opA.toNat (releaseLanes s)))

/-- `QSPI_WRITE_DATA` (R153). -/
def execQspiWriteData (s : State) : Host.Outcome State Fault Refusal :=
  .next (returnOk (txw (dataw s.qmode) (opByte s.opA) s))

/-- `QSPI_READ_DATA` (R154). -/
def execQspiReadData (s : State) : Host.Outcome State Fault Refusal :=
  .next (let (r, s') := rxw (dataw s.qmode) s
    returnValue (r.setWidth 32) s')

/-- `QSPI_TRANSFER` (R155): refused with no pulse in any mode but STANDARD (F4). -/
def execQspiTransfer (s : State) : Host.Outcome State Fault Refusal :=
  .next (if s.qmode ≠ .standard then returnFail s
    else
      let (r, s') := transferByte (opByte s.opA) s
      returnValue (r.setWidth 32) s')

/-! ## QPI entry and exit (R160, R161) -/

/-- The mode forced for the time the byte is sent, then the new session mode committed. -/
def switchMode (temporary committed : Mode) (cmd : Byte) (s : State) : State :=
  let s := setMode temporary s
  setMode committed (txw (cmdw s.qmode) cmd s)

/-- `QSPI_ENTER_QPI` (R160). -/
def execQspiEnterQpi (s : State) : Host.Outcome State Fault Refusal :=
  .next (returnOk (switchMode .standard .qpi Config.qpiEnterCmd s))

/-- `QSPI_EXIT_QPI` (R161). -/
def execQspiExitQpi (s : State) : Host.Outcome State Fault Refusal :=
  .next (returnOk (switchMode .qpi .standard Config.qpiExitCmd s))

end Sys2Proof.Machine
end

