-- ==== Sys2Proof/Machine/Swd.lean ====
section
/-! DEFINITION. The SWD engine (42_swd.md): the cycle, the bit sequences, the one transaction, the six operations. -/

namespace Sys2Proof.Machine

/-! ## The cycle and the bit sequences (R181 to R187) -/

/-- `SWCLK.out <- v ; delay(SWD_DELAY)`. -/
def swclkEdge (v : Level) (s : State) : State :=
  delay Config.swdDelay { s with swclk := { s.swclk with out := v } }

/-- `swcycle()`: the clock driven, high, low (R181). -/
def swcycle (s : State) : State :=
  swclkEdge false (swclkEdge true { s with swclk := { s.swclk with dir := .output } })

/-- `SWDIO.dir <- IN`. -/
def releaseSwdio (s : State) : State := { s with swdio := s.swdio.release }

/-- `sw_write_bit(b)`: the bit is placed before the rising edge of its cycle (R182). -/
def swWriteBit (b : Level) (s : State) : State := emit (.h b) (swcycle { s with swdio := Pin.drive b })

/-- `sw_read_bit()`: the bit is sampled before the rising edge of its cycle (R183). -/
def swReadBit (s : State) : Level × State :=
  let s := releaseSwdio s
  let (v, s) := samplePin s.swdio s
  (v, emit (.t v) (swcycle s))

/-- `sw_write_bits(v, n)`, least significant bit first (R184). -/
def swWriteBits {w : Nat} (v : BitVec w) (n : Nat) (s : State) : State :=
  loop n (fun i s => swWriteBit (v.getLsbD i) s) s

/-- `sw_read_bits(n)`, the first bit received is bit 0 (R184). -/
def swReadBits (n : Nat) (s : State) : BitVec n × State :=
  loop n (fun i rs =>
    let (v, s) := swReadBit rs.2
    (putBit rs.1 i v, s)) (0, s)

/-- `turnAround()`: one cycle with the line released, nothing sampled (R185). -/
def turnAround (s : State) : State := emit .swdZ (swcycle (releaseSwdio s))

/-- `line_reset()` of n cycles, the line held high (R186). -/
def lineReset (n : Nat) (s : State) : State := loop n (fun _ s => swWriteBit true s) s

/-! ## The transaction (R190 to R193) -/

/-- What a transaction or an access returns, `(ok, data)`, and the state it leaves. -/
structure Xfer where
  ok : Bool
  data : Word
  state : State
deriving DecidableEq, Repr

/-- The request header phase: 8 cycles, bit 0 first (R190, R191 `HEADER`; 30_encoding.md R91). -/
def sendHeader (h : Byte) (s : State) : State := swWriteBits h 8 s

/-- The acknowledgement phase: 3 cycles, and one turnaround when the value is not OK (R190, R191 `ACK`, `TRN_ABORT`;
R192). -/
def ackPhase (s : State) : Bool × State :=
  let (ack, s) := swReadBits 3 s
  if ackIsOk ack then (true, s) else (false, turnAround s)

/-- The data phase of a read: word, parity, turnaround; the parity "must be verified" (R190, R193). -/
def readDataPhase (s : State) : Xfer :=
  let (data, s) := swReadBits 32 s
  let (p, s) := swReadBit s
  let s := turnAround s
  if p != parity32 data then { ok := false, data := 0, state := s } else { ok := true, data := data, state := s }

/-- The data phase of a write: turnaround, word, parity (R190). No cycle follows it (R206, `SWD_IDLE_AFTER` = 0). -/
def writeDataPhase (wdata : Word) (s : State) : Xfer :=
  { ok := true, data := 0, state := swWriteBit (parity32 wdata) (swWriteBits wdata 32 (turnAround s)) }

/-- `swd_xfer(h, wdata)` (R190): header, turnaround, acknowledgement, and the data phase that bit 2 (RnW) of the header
chooses. -/
def swdXfer (h : Byte) (wdata : Word) (s : State) : Xfer :=
  let (ok, s) := ackPhase (turnAround (sendHeader h s))
  if !ok then { ok := false, data := 0, state := s }
  else if h.getLsbD 2 then readDataPhase s
  else writeDataPhase wdata s

/-- The rest of an access after a transaction: it runs when the transaction succeeded; "the first failing transaction
ends the operation" (R203, R204). -/
def Xfer.andThen (x : Xfer) (rest : State → Xfer) : Xfer :=
  if x.ok then rest x.state else { ok := false, data := 0, state := x.state }

/-- `if ok: return OK(data) ; return FAIL`. -/
def Xfer.returnData (x : Xfer) : State := if x.ok then returnValue x.data x.state else returnFail x.state

/-- `if ok: return OK ; return FAIL`. -/
def Xfer.returnDone (x : Xfer) : State := if x.ok then returnOk x.state else returnFail x.state

/-! ## The operations -/

/-- `SWD_TURNAROUND` (R185). -/
def execSwdTurnaround (s : State) : Host.Outcome State Fault Refusal := .next (returnOk (turnAround s))

/-- Steps (a) to (d) of `init()` with a line reset of n cycles and a given switch sequence (R200). -/
def swdConnect (n : Nat) (switch : BitVec 16) (s : State) : State :=
  swWriteBits (0 : Byte) Config.swdIdleClocks
    (lineReset n (swWriteBits switch 16 (lineReset n { s with swclk := Pin.drive false })))

/-- `init()` with its two open parameters as arguments: steps (a) to (d), then the IDCODE read (R200). -/
def swdInitWith (n : Nat) (switch : BitVec 16) (s : State) : State :=
  (swdXfer idcodeReadHeader 0 (swdConnect n switch s)).returnData

/-- `SWD_INIT` (R200). -/
def execSwdInit (s : State) : Host.Outcome State Fault Refusal :=
  .next (swdInitWith Config.swdResetClocks Config.swdJtag2Swd s)

/-- `SWD_READ_DP` (R201). -/
def execSwdReadDp (s : State) : Host.Outcome State Fault Refusal :=
  .next (swdXfer (header false true (opDpAddr s.opA)) 0 s).returnData

/-- `SWD_WRITE_DP` (R202). -/
def execSwdWriteDp (s : State) : Host.Outcome State Fault Refusal :=
  .next (swdXfer (header false false (opDpAddr s.opA)) s.opB s).returnDone

/-- The AP read access: SELECT written, the posted read, RDBUFF read (R203). -/
def readAp (apsel addr : Byte) (s : State) : Xfer :=
  (swdXfer selectWriteHeader (selectValue apsel addr) s).andThen fun s =>
    (swdXfer (header true true (headerAddr addr)) 0 s).andThen fun s =>
      swdXfer rdbuffReadHeader 0 s

/-- The AP write access: SELECT written, then the register (R204). -/
def writeAp (apsel addr : Byte) (wdata : Word) (s : State) : Xfer :=
  (swdXfer selectWriteHeader (selectValue apsel addr) s).andThen fun s =>
    swdXfer (header true false (headerAddr addr)) wdata s

/-- `SWD_READ_AP` (R203). -/
def execSwdReadAp (s : State) : Host.Outcome State Fault Refusal :=
  .next (readAp (opApSel s.opA) (opApAddr s.opA) s).returnData

/-- `SWD_WRITE_AP` (R204). -/
def execSwdWriteAp (s : State) : Host.Outcome State Fault Refusal :=
  .next (writeAp (opApSel s.opA) (opApAddr s.opA) s.opB s).returnDone

end Sys2Proof.Machine
end

