-- ==== Sys2Proof/Machine/Wire.lean ====
section
/-! DEFINITION. The wire encodings: each row of spec/opcode_table.json that is no operation of the port, as the step of
the pseudocode that moves its code (log 6). They are single lines over the shared operations that the operations
themselves are built from; none is an operation, so none writes `STATUS` or `RES`, but for the failure that the table
gives a bad acknowledgement. -/

namespace Sys2Proof.Machine

/-! ## Request headers (30_encoding.md R91, R95): 8 cycles, bit 0 first -/

/-- `SWD_REQUEST` (R91): the header of its four free bits. Its parity is the one of R92 whatever the operand says: "`header()`
builds all headers" (R98; log 7). -/
def execSwdRequest (apndp rnw a2 a3 : Level) (s : State) : Host.Outcome State Fault Refusal :=
  .next (sendHeader (headerBits apndp rnw a2 a3 (headerParity apndp rnw a2 a3)) s)

/-- `SWD_HDR_DP_READ_0` (R95): 1 0 1 0 0 1 0 1 on the wire. -/
def execSwdHdrDpRead0 (s : State) : Host.Outcome State Fault Refusal := .next (sendHeader 0xA5#8 s)

/-- `SWD_HDR_DP_READ_4` (R95): 1 0 1 1 0 0 0 1 on the wire. -/
def execSwdHdrDpRead4 (s : State) : Host.Outcome State Fault Refusal := .next (sendHeader 0x8D#8 s)

/-- `SWD_HDR_DP_READ_8` (R95): 1 0 1 0 1 0 0 1 on the wire. -/
def execSwdHdrDpRead8 (s : State) : Host.Outcome State Fault Refusal := .next (sendHeader 0x95#8 s)

/-- `SWD_HDR_DP_READ_C` (R95): 1 0 1 1 1 1 0 1 on the wire. -/
def execSwdHdrDpReadC (s : State) : Host.Outcome State Fault Refusal := .next (sendHeader 0xBD#8 s)

/-- `SWD_HDR_DP_WRITE_0` (R95): 1 0 0 0 0 0 0 1 on the wire. -/
def execSwdHdrDpWrite0 (s : State) : Host.Outcome State Fault Refusal := .next (sendHeader 0x81#8 s)

/-- `SWD_HDR_DP_WRITE_4` (R95): 1 0 0 1 0 1 0 1 on the wire. -/
def execSwdHdrDpWrite4 (s : State) : Host.Outcome State Fault Refusal := .next (sendHeader 0xA9#8 s)

/-- `SWD_HDR_DP_WRITE_8` (R95): 1 0 0 0 1 1 0 1 on the wire. -/
def execSwdHdrDpWrite8 (s : State) : Host.Outcome State Fault Refusal := .next (sendHeader 0xB1#8 s)

/-- `SWD_HDR_DP_WRITE_C` (R95): 1 0 0 1 1 0 0 1 on the wire. -/
def execSwdHdrDpWriteC (s : State) : Host.Outcome State Fault Refusal := .next (sendHeader 0x99#8 s)

/-- `SWD_HDR_AP_READ_0` (R95): 1 1 1 0 0 0 0 1 on the wire. -/
def execSwdHdrApRead0 (s : State) : Host.Outcome State Fault Refusal := .next (sendHeader 0x87#8 s)

/-- `SWD_HDR_AP_READ_4` (R95): 1 1 1 1 0 1 0 1 on the wire. -/
def execSwdHdrApRead4 (s : State) : Host.Outcome State Fault Refusal := .next (sendHeader 0xAF#8 s)

/-- `SWD_HDR_AP_READ_8` (R95): 1 1 1 0 1 1 0 1 on the wire. -/
def execSwdHdrApRead8 (s : State) : Host.Outcome State Fault Refusal := .next (sendHeader 0xB7#8 s)

/-- `SWD_HDR_AP_READ_C` (R95): 1 1 1 1 1 0 0 1 on the wire. -/
def execSwdHdrApReadC (s : State) : Host.Outcome State Fault Refusal := .next (sendHeader 0x9F#8 s)

/-- `SWD_HDR_AP_WRITE_0` (R95): 1 1 0 0 0 1 0 1 on the wire. -/
def execSwdHdrApWrite0 (s : State) : Host.Outcome State Fault Refusal := .next (sendHeader 0xA3#8 s)

/-- `SWD_HDR_AP_WRITE_4` (R95): 1 1 0 1 0 0 0 1 on the wire. -/
def execSwdHdrApWrite4 (s : State) : Host.Outcome State Fault Refusal := .next (sendHeader 0x8B#8 s)

/-- `SWD_HDR_AP_WRITE_8` (R95): 1 1 0 0 1 0 0 1 on the wire. -/
def execSwdHdrApWrite8 (s : State) : Host.Outcome State Fault Refusal := .next (sendHeader 0x93#8 s)

/-- `SWD_HDR_AP_WRITE_C` (R95): 1 1 0 1 1 1 0 1 on the wire. -/
def execSwdHdrApWriteC (s : State) : Host.Outcome State Fault Refusal := .next (sendHeader 0xBB#8 s)

/-! ## Acknowledgements (30_encoding.md R93, 42_swd.md R192) -/

/-- The target presents an acknowledgement: its three bits come next, bit 0 first, ahead of whatever the environment has
ready; the block runs its acknowledgement phase. When it is not OK the operation fails after one turnaround (R190,
R192); when it is, the transaction would go on to its data phase, which the header chose (R190). -/
def presentAck (ack : BitVec 3) (s : State) : State :=
  let (ok, s') := ackPhase { s with answers := [ack.getLsbD 0, ack.getLsbD 1, ack.getLsbD 2] ++ s.answers }
  if ok then s' else returnFail s'

/-- `SWD_ACK_OK` (R93): transaction continues to the data phase. -/
def execSwdAckOk (s : State) : Host.Outcome State Fault Refusal := .next (presentAck 1#3 s)

/-- `SWD_ACK_BAD_0` (R192): one turnaround cycle, then the operation returns FAIL (F5). -/
def execSwdAckBad0 (s : State) : Host.Outcome State Fault Refusal := .next (presentAck 0#3 s)

/-- `SWD_ACK_BAD_2` (R192): one turnaround cycle, then the operation returns FAIL (F5). -/
def execSwdAckBad2 (s : State) : Host.Outcome State Fault Refusal := .next (presentAck 2#3 s)

/-- `SWD_ACK_BAD_3` (R192): one turnaround cycle, then the operation returns FAIL (F5). -/
def execSwdAckBad3 (s : State) : Host.Outcome State Fault Refusal := .next (presentAck 3#3 s)

/-- `SWD_ACK_BAD_4` (R192): one turnaround cycle, then the operation returns FAIL (F5). -/
def execSwdAckBad4 (s : State) : Host.Outcome State Fault Refusal := .next (presentAck 4#3 s)

/-- `SWD_ACK_BAD_5` (R192): one turnaround cycle, then the operation returns FAIL (F5). -/
def execSwdAckBad5 (s : State) : Host.Outcome State Fault Refusal := .next (presentAck 5#3 s)

/-- `SWD_ACK_BAD_6` (R192): one turnaround cycle, then the operation returns FAIL (F5). -/
def execSwdAckBad6 (s : State) : Host.Outcome State Fault Refusal := .next (presentAck 6#3 s)

/-- `SWD_ACK_BAD_7` (R192): one turnaround cycle, then the operation returns FAIL (F5). -/
def execSwdAckBad7 (s : State) : Host.Outcome State Fault Refusal := .next (presentAck 7#3 s)

/-! ## Command bytes of the block (30_encoding.md R102) -/

/-- `QPI_ENTER_BYTE` (41_qspi.md R160): 1-wire, 8 pulses, bit 7 first. -/
def execQpiEnterByte (s : State) : Host.Outcome State Fault Refusal := .next (tx1 Config.qpiEnterCmd s)

/-- `QPI_EXIT_BYTE` (41_qspi.md R161): 4-wire, 2 pulses, high nibble first. -/
def execQpiExitByte (s : State) : Host.Outcome State Fault Refusal := .next (tx4 Config.qpiExitCmd s)

/-! ## Mode codes (30_encoding.md R85): `QMODE <- code` -/

/-- `QMODE_STANDARD` (R85), code 0. -/
def execQmodeStandard (s : State) : Host.Outcome State Fault Refusal := .next (setMode .standard s)

/-- `QMODE_DUAL_OUT` (R85), code 1. -/
def execQmodeDualOut (s : State) : Host.Outcome State Fault Refusal := .next (setMode .dualOut s)

/-- `QMODE_DUAL_IO` (R85), code 2. -/
def execQmodeDualIo (s : State) : Host.Outcome State Fault Refusal := .next (setMode .dualIo s)

/-- `QMODE_QUAD_OUT` (R85), code 3. -/
def execQmodeQuadOut (s : State) : Host.Outcome State Fault Refusal := .next (setMode .quadOut s)

/-- `QMODE_QUAD_IO` (R85), code 4. -/
def execQmodeQuadIo (s : State) : Host.Outcome State Fault Refusal := .next (setMode .quadIo s)

/-- `QMODE_QPI` (R85), code 5. -/
def execQmodeQpi (s : State) : Host.Outcome State Fault Refusal := .next (setMode .qpi s)

end Sys2Proof.Machine
end

