-- ==== Sys2Proof/Machine/Dispatch.lean ====
section
/-! DEFINITION. The dispatch: one arm per instruction, each one direct call of its meaning. -/

namespace Sys2Proof.Machine

/-- What an instruction does: the meaning of its row. -/
def exec (i : Instr) (s : State) : Host.Outcome State Fault Refusal :=
  match i with
  | .crcInit => Sys2Proof.Machine.execCrcInit s
  | .crcUpdate => Sys2Proof.Machine.execCrcUpdate s
  | .crcFinal => Sys2Proof.Machine.execCrcFinal s
  | .qspiInit => Sys2Proof.Machine.execQspiInit s
  | .qspiCsLow => Sys2Proof.Machine.execQspiCsLow s
  | .qspiCsHigh => Sys2Proof.Machine.execQspiCsHigh s
  | .qspiSetMode => Sys2Proof.Machine.execQspiSetMode s
  | .qspiGetMode => Sys2Proof.Machine.execQspiGetMode s
  | .qspiSendCommand => Sys2Proof.Machine.execQspiSendCommand s
  | .qspiSendAddress => Sys2Proof.Machine.execQspiSendAddress s
  | .qspiSendDummy => Sys2Proof.Machine.execQspiSendDummy s
  | .qspiWriteData => Sys2Proof.Machine.execQspiWriteData s
  | .qspiReadData => Sys2Proof.Machine.execQspiReadData s
  | .qspiTransfer => Sys2Proof.Machine.execQspiTransfer s
  | .qspiEnterQpi => Sys2Proof.Machine.execQspiEnterQpi s
  | .qspiExitQpi => Sys2Proof.Machine.execQspiExitQpi s
  | .swdInit => Sys2Proof.Machine.execSwdInit s
  | .swdReadDp => Sys2Proof.Machine.execSwdReadDp s
  | .swdWriteDp => Sys2Proof.Machine.execSwdWriteDp s
  | .swdReadAp => Sys2Proof.Machine.execSwdReadAp s
  | .swdWriteAp => Sys2Proof.Machine.execSwdWriteAp s
  | .swdTurnaround => Sys2Proof.Machine.execSwdTurnaround s
  | .swdRequest apndp rnw a2 a3 _ => Sys2Proof.Machine.execSwdRequest apndp rnw a2 a3 s
  | .swdHdrDpRead0 => Sys2Proof.Machine.execSwdHdrDpRead0 s
  | .swdHdrDpRead4 => Sys2Proof.Machine.execSwdHdrDpRead4 s
  | .swdHdrDpRead8 => Sys2Proof.Machine.execSwdHdrDpRead8 s
  | .swdHdrDpReadC => Sys2Proof.Machine.execSwdHdrDpReadC s
  | .swdHdrDpWrite0 => Sys2Proof.Machine.execSwdHdrDpWrite0 s
  | .swdHdrDpWrite4 => Sys2Proof.Machine.execSwdHdrDpWrite4 s
  | .swdHdrDpWrite8 => Sys2Proof.Machine.execSwdHdrDpWrite8 s
  | .swdHdrDpWriteC => Sys2Proof.Machine.execSwdHdrDpWriteC s
  | .swdHdrApRead0 => Sys2Proof.Machine.execSwdHdrApRead0 s
  | .swdHdrApRead4 => Sys2Proof.Machine.execSwdHdrApRead4 s
  | .swdHdrApRead8 => Sys2Proof.Machine.execSwdHdrApRead8 s
  | .swdHdrApReadC => Sys2Proof.Machine.execSwdHdrApReadC s
  | .swdHdrApWrite0 => Sys2Proof.Machine.execSwdHdrApWrite0 s
  | .swdHdrApWrite4 => Sys2Proof.Machine.execSwdHdrApWrite4 s
  | .swdHdrApWrite8 => Sys2Proof.Machine.execSwdHdrApWrite8 s
  | .swdHdrApWriteC => Sys2Proof.Machine.execSwdHdrApWriteC s
  | .swdAckOk => Sys2Proof.Machine.execSwdAckOk s
  | .swdAckBad0 => Sys2Proof.Machine.execSwdAckBad0 s
  | .swdAckBad2 => Sys2Proof.Machine.execSwdAckBad2 s
  | .swdAckBad3 => Sys2Proof.Machine.execSwdAckBad3 s
  | .swdAckBad4 => Sys2Proof.Machine.execSwdAckBad4 s
  | .swdAckBad5 => Sys2Proof.Machine.execSwdAckBad5 s
  | .swdAckBad6 => Sys2Proof.Machine.execSwdAckBad6 s
  | .swdAckBad7 => Sys2Proof.Machine.execSwdAckBad7 s
  | .qpiEnterByte => Sys2Proof.Machine.execQpiEnterByte s
  | .qpiExitByte => Sys2Proof.Machine.execQpiExitByte s
  | .qmodeStandard => Sys2Proof.Machine.execQmodeStandard s
  | .qmodeDualOut => Sys2Proof.Machine.execQmodeDualOut s
  | .qmodeDualIo => Sys2Proof.Machine.execQmodeDualIo s
  | .qmodeQuadOut => Sys2Proof.Machine.execQmodeQuadOut s
  | .qmodeQuadIo => Sys2Proof.Machine.execQmodeQuadIo s
  | .qmodeQpi => Sys2Proof.Machine.execQmodeQpi s

end Sys2Proof.Machine
end

