-- ==== Sys2Proof/Machine/Issue.lean ====
section
/-! DEFINITION. How an operation is issued: the next input taken, the caller's write of the operands, what a word that
decodes to nothing does, the reset event. -/

namespace Sys2Proof.Machine

/-- The next input and the state without it; `none` when nothing is asked of the block (log 2). -/
def takeInput (s : State) : Option (Input × State) :=
  match s.inbox with
  | [] => none
  | i :: rest => some (i, { s with inbox := rest })

/-- The caller writes `OP_A` and `OP_B` with the two operand fields of its request (30_encoding.md R80, 10_state.md R23;
log 13). A wire encoding has no operand. -/
def acceptWord (w : PortWord) (s : State) : State :=
  match w with
  | .request r => { s with opA := recordOpA r, opB := recordOpB r }
  | .wire _ _ => s

/-- A word that stands for no instruction. An undefined operation code is refused by the block: FAIL and no pin event
(30_encoding.md R84, failure F1). A wire code that cannot be produced is no step of the block (R98; log 11). -/
def onReject (reason : Reject) (s : State) : Host.Outcome State Fault Refusal :=
  match reason with
  | .undefinedOpcode _ => .next (returnFail s)
  | .headerFraming h => .fault (.unproducibleWord (.headerFraming h))
  | .headerParity h => .fault (.unproducibleWord (.headerParity h))
  | .ackWidth c => .fault (.unproducibleWord (.ackWidth c))
  | .commandByte c => .fault (.unproducibleWord (.commandByte c))
  | .modeCode c => .fault (.unproducibleWord (.modeCode c))

/-- The reset event (70_reset_and_hazards.md R260, R261): the block takes its reset values and a new wire trace begins;
the caller's further inputs and the environment, which no reset of the block touches (R261), stay (log 14). -/
def resetEvent (s : State) : State := { s with toBlock := Block.reset, trace := [] }

end Sys2Proof.Machine
end

