-- ==== Sys2Proof/Machine/Step.lean ====
section
/-! DEFINITION. One step of the machine: one operation, issued and run to completion (20_memory.md R64, R65). -/

namespace Sys2Proof.Machine

/-- One step. With no input the block is idle and holds its state (60_exceptions.md R244); a reset resets it; a word is
accepted, decoded and run. -/
def step (s : State) : Host.Outcome State Fault Refusal :=
  match takeInput s with
  | none => .next s
  | some (.reset, s') => .next (resetEvent s')
  | some (.word w, s') =>
    match decode w with
    | .ok i => exec i (acceptWord w s')
    | .error reason => onReject reason (acceptWord w s')

/-- `s` with the word of an opcode-table row put where the step takes its next input (log 8). -/
def State.withFetchWord (s : State) (nbits w : Nat) : State :=
  { s with inbox := .word (tableWord nbits w) :: s.inbox }

end Sys2Proof.Machine
end

