-- ==== Sys2Proof/Machine/Frame.lean ====
section
/-! DEFINITION. The frame of the host protocol as far as it is in scope (00_scope.md R4; 20_memory.md R60 to R63): its
layout, the bytes the CRC covers, the check on receipt. Functions on byte lists, beside the machine (log 15). -/

namespace Sys2Proof.Machine

/-- What a frame carries between its sentinel and its CRC (20_memory.md R61). -/
structure Packet where
  sequence : Byte
  command : Byte
  flags : Byte
  payload : List Byte
deriving DecidableEq, Repr

/-- The flags bits: bit 0 RESPONSE, bit 1 ERROR, bit 2 ASYNC (R61). -/
def Packet.isResponse (p : Packet) : Bool := p.flags.getLsbD 0
def Packet.isError (p : Packet) : Bool := p.flags.getLsbD 1
def Packet.isAsync (p : Packet) : Bool := p.flags.getLsbD 2

/-- The declared payload length is at most `MAX_PAYLOAD` (R61). -/
abbrev Packet.Fits (p : Packet) : Prop := p.payload.length ≤ Config.maxPayload

/-- A 32-bit value as four bytes, little-endian (R62). -/
def littleEndian32 (c : Word) : List Byte := [byteOf c 0, byteOf c 1, byteOf c 2, byteOf c 3]

/-- The little-endian value of four bytes (R63). -/
def ofLittleEndian32 (b0 b1 b2 b3 : Byte) : Word := ((b3 ++ b2) ++ b1) ++ b0

/-- The CRC input, offsets 0 to 5+L: sentinel, sequence, command, flags, the payload length little-endian, the payload
(R60, R61). The sentinel's value is not in the source: an argument (92_eei_decisions.md D39). -/
def frameCrcInput (sof : Byte) (p : Packet) : List Byte :=
  [sof, p.sequence, p.command, p.flags, BitVec.ofNat 8 p.payload.length, BitVec.ofNat 8 (p.payload.length / 256)]
    ++ p.payload

/-- The frame: the CRC input and its CRC, little-endian (R61, R62). -/
def frame (sof : Byte) (p : Packet) : List Byte :=
  frameCrcInput sof p ++ littleEndian32 (crc32 (frameCrcInput sof p))

/-- The check on receipt: the CRC over the bytes before the last four against their little-endian value (R63). -/
def frameAccepted (bytes : List Byte) : Bool :=
  let body := bytes.take (bytes.length - 4)
  match bytes.drop (bytes.length - 4) with
  | [b0, b1, b2, b3] => crc32 body == ofLittleEndian32 b0 b1 b2 b3
  | _ => false

/-- The value `CRC_ACC` holds after all bytes of a correct frame (R63, 40_crc.md R119 (c)). -/
def crcResidue : Word := 0xDEBB20E3#32

end Sys2Proof.Machine
end

