-- ==== Sys2Proof/Machine/Script.lean ====
section
/-! DEFINITION. The pseudo-operations of 30_encoding.md R100, each as the sequence of requests it abbreviates, and the
run of a sequence of requests. -/

namespace Sys2Proof.Machine

/-- One line of a script: `MNEMONIC opA, opB` (30_encoding.md R99). -/
def request (i : Instr) (opA opB : Word) : Input := .word (encode i opA opB)

/-- `CRC32 b0, ..., b(n-1)` (R100). -/
def crc32Script (m : List Byte) : List Input :=
  [request .crcInit 0 0] ++ m.map (fun b => request .crcUpdate (b.setWidth 32) 0) ++ [request .crcFinal 0 0]

/-- `QSPI_WRITE_BUF b0, ..., b(n-1)`: the multi-byte `writeData` (R100; 41_qspi.md R165). -/
def qspiWriteBufScript (m : List Byte) : List Input :=
  m.map (fun b => request .qspiWriteData (b.setWidth 32) 0)

/-- `QSPI_READ_BUF n`: the multi-byte `readData` (R100; 41_qspi.md R165). -/
def qspiReadBufScript (n : Nat) : List Input := List.replicate n (request .qspiReadData 0 0)

/-- `QSPI_TRANSFER_BUF b0, ..., b(n-1)` (R100). -/
def qspiTransferBufScript (m : List Byte) : List Input :=
  m.map (fun b => request .qspiTransfer (b.setWidth 32) 0)

/-- n steps of the machine, in program order (20_memory.md R64). -/
def steps : Nat → State → Host.Outcome State Fault Refusal
  | 0, s => .next s
  | n + 1, s =>
    match step s with
    | .next s' => steps n s'
    | .fault r => .fault r
    | .refused r => .refused r

/-- `s` with a script as the caller's next inputs. -/
def withScript (script : List Input) (s : State) : State := { s with inbox := script ++ s.inbox }

end Sys2Proof.Machine
end

