-- ==== Sys2Proof/Machine/SwdPhases.lean ====
section
/-! DEFINITION. The SWD transaction as the state machine of 42_swd.md R191, one clock cycle at a time: a second form of
`swdXfer`, with the transient position of 10_state.md R25 made explicit. The machine's step uses `swdXfer`; that the
two agree is a statement. -/

namespace Sys2Proof.Machine

/-- The states of R191. -/
inductive Phase
  | idle | header | trn1 | ack | trnAbort | rdata | rpar | trn2r | trn2w | wdata | wpar
deriving DecidableEq, Repr

/-- How many cycles a state lasts (R191). -/
def Phase.cycles : Phase → Nat
  | .idle => 0
  | .header => 8
  | .trn1 => 1
  | .ack => 3
  | .trnAbort => 1
  | .rdata => 32
  | .rpar => 1
  | .trn2r => 1
  | .trn2w => 1
  | .wdata => 32
  | .wpar => 1

/-- A transaction under way: the state of R191 it is in, the cycles already spent there, what it has received, its
result, and the machine. -/
structure PhaseRun where
  phase : Phase
  spent : Nat
  ack : BitVec 3
  data : Word
  par : Level
  ok : Bool
  state : State
deriving DecidableEq, Repr

/-- A transaction that starts (R191: `IDLE` to `HEADER`). -/
def PhaseRun.start (s : State) : PhaseRun :=
  { phase := .header, spent := 0, ack := 0, data := 0, par := false, ok := false, state := s }

/-- What the wire does in one cycle of a state (R191, column `SWDIO`). -/
def PhaseRun.cycle (h : Byte) (wdata : Word) (r : PhaseRun) : PhaseRun :=
  match r.phase with
  | .idle => r
  | .header => { r with state := swWriteBit (h.getLsbD r.spent) r.state }
  | .trn1 => { r with state := turnAround r.state }
  | .ack =>
    let (v, s) := swReadBit r.state
    { r with ack := putBit r.ack r.spent v, state := s }
  | .trnAbort => { r with state := turnAround r.state }
  | .rdata =>
    let (v, s) := swReadBit r.state
    { r with data := putBit r.data r.spent v, state := s }
  | .rpar =>
    let (v, s) := swReadBit r.state
    { r with par := v, state := s }
  | .trn2r => { r with state := turnAround r.state }
  | .trn2w => { r with state := turnAround r.state }
  | .wdata => { r with state := swWriteBit (wdata.getLsbD r.spent) r.state }
  | .wpar => { r with state := swWriteBit (parity32 wdata) r.state }

/-- The state that follows when a state has lasted its cycles, and the result it brings (R191, column "next"). -/
def PhaseRun.move (h : Byte) (r : PhaseRun) : PhaseRun :=
  match r.phase with
  | .idle => r
  | .header => { r with phase := .trn1, spent := 0 }
  | .trn1 => { r with phase := .ack, spent := 0 }
  | .ack =>
    { r with
      phase := if !ackIsOk r.ack then .trnAbort else if h.getLsbD 2 then .rdata else .trn2w
      spent := 0 }
  | .trnAbort => { r with phase := .idle, spent := 0, ok := false, data := 0 }
  | .rdata => { r with phase := .rpar, spent := 0 }
  | .rpar => { r with phase := .trn2r, spent := 0 }
  | .trn2r =>
    if r.par != parity32 r.data then { r with phase := .idle, spent := 0, ok := false, data := 0 }
    else { r with phase := .idle, spent := 0, ok := true }
  | .trn2w => { r with phase := .wdata, spent := 0 }
  | .wdata => { r with phase := .wpar, spent := 0 }
  | .wpar => { r with phase := .idle, spent := 0, ok := true, data := 0 }

/-- One clock cycle of the state machine; in `IDLE` nothing happens. -/
def PhaseRun.tick (h : Byte) (wdata : Word) (r : PhaseRun) : PhaseRun :=
  if r.phase = .idle then r
  else
    let r := PhaseRun.cycle h wdata r
    if r.spent + 1 = r.phase.cycles then r.move h else { r with spent := r.spent + 1 }

/-- The state machine after n cycles. -/
def PhaseRun.after (h : Byte) (wdata : Word) (n : Nat) (r : PhaseRun) : PhaseRun :=
  loop n (fun _ r => r.tick h wdata) r

/-- What an ended transaction returns. -/
def PhaseRun.result (r : PhaseRun) : Xfer := { ok := r.ok, data := r.data, state := r.state }

end Sys2Proof.Machine
end

