-- ==== Sys2Proof/Machine/Trace.lean ====
section
/-! DEFINITION. The trace notation of the spec (00_scope.md R13; 30_encoding.md R87 to R96) and the values the
environment presents, written out: the vocabulary of the statements. The machine does not use them. -/

namespace Sys2Proof.Machine

/-! ## Bytes on the QSPI lanes (30_encoding.md R87 to R90) -/

/-- A byte outbound on one lane: `W1(b[7]) W1(b[6]) ... W1(b[0])` (R87). -/
def wire1 (b : Byte) : List Event :=
  [.w1 (b.getLsbD 7), .w1 (b.getLsbD 6), .w1 (b.getLsbD 5), .w1 (b.getLsbD 4),
    .w1 (b.getLsbD 3), .w1 (b.getLsbD 2), .w1 (b.getLsbD 1), .w1 (b.getLsbD 0)]

/-- A byte outbound on two lanes: `W2(b[7]b[6]) W2(b[5]b[4]) W2(b[3]b[2]) W2(b[1]b[0])` (R88). -/
def wire2 (b : Byte) : List Event :=
  [.w2 (b.getLsbD 7) (b.getLsbD 6), .w2 (b.getLsbD 5) (b.getLsbD 4),
    .w2 (b.getLsbD 3) (b.getLsbD 2), .w2 (b.getLsbD 1) (b.getLsbD 0)]

/-- A byte outbound on four lanes: `W4(b[7:4]) W4(b[3:0])` (R89). -/
def wire4 (b : Byte) : List Event := [.w4 (b.extractLsb' 4 4), .w4 (b.extractLsb' 0 4)]

/-- A byte outbound on the lanes of a width. -/
def wireOut (w : Width) (b : Byte) : List Event :=
  match w with
  | .one => wire1 b
  | .two => wire2 b
  | .four => wire4 b

/-- A byte inbound on the lanes of a width (R87 to R89; 41_qspi.md R135 to R137). -/
def wireIn (w : Width) (b : Byte) : List Event :=
  match w with
  | .one =>
    [.r1 (b.getLsbD 7), .r1 (b.getLsbD 6), .r1 (b.getLsbD 5), .r1 (b.getLsbD 4),
      .r1 (b.getLsbD 3), .r1 (b.getLsbD 2), .r1 (b.getLsbD 1), .r1 (b.getLsbD 0)]
  | .two =>
    [.r2 (b.getLsbD 7) (b.getLsbD 6), .r2 (b.getLsbD 5) (b.getLsbD 4),
      .r2 (b.getLsbD 3) (b.getLsbD 2), .r2 (b.getLsbD 1) (b.getLsbD 0)]
  | .four => [.r4 (b.extractLsb' 4 4), .r4 (b.extractLsb' 0 4)]

/-- A full-duplex byte: `X1(o[7],i[7]) ... X1(o[0],i[0])` (41_qspi.md R155). -/
def wireDuplex (o i : Byte) : List Event :=
  [.x1 (o.getLsbD 7) (i.getLsbD 7), .x1 (o.getLsbD 6) (i.getLsbD 6), .x1 (o.getLsbD 5) (i.getLsbD 5),
    .x1 (o.getLsbD 4) (i.getLsbD 4), .x1 (o.getLsbD 3) (i.getLsbD 3), .x1 (o.getLsbD 2) (i.getLsbD 2),
    .x1 (o.getLsbD 1) (i.getLsbD 1), .x1 (o.getLsbD 0) (i.getLsbD 0)]

/-- The bytes of an address of 3 or 4 bytes, most significant first (R90). -/
def addressBytes (n : Nat) (addr : Word) : List Byte :=
  if n = 4 then
    [addr.extractLsb' 24 8, addr.extractLsb' 16 8, addr.extractLsb' 8 8, addr.extractLsb' 0 8]
  else [addr.extractLsb' 16 8, addr.extractLsb' 8 8, addr.extractLsb' 0 8]

/-- The lanes after a byte sent on the lanes of a width: driven at the last bits, the others as before (41_qspi.md R132
to R134, R138). -/
def lanesAfterOut (w : Width) (b : Byte) (q : Lanes) : Lanes :=
  match w with
  | .one => { q with io0 := Pin.drive (b.getLsbD 0) }
  | .two => { q with io0 := Pin.drive (b.getLsbD 0), io1 := Pin.drive (b.getLsbD 1) }
  | .four =>
    { io0 := Pin.drive (b.getLsbD 0), io1 := Pin.drive (b.getLsbD 1),
      io2 := Pin.drive (b.getLsbD 2), io3 := Pin.drive (b.getLsbD 3) }

/-- The lanes after a byte received on the lanes of a width: those sampled are released and keep their level, the others
are as before (41_qspi.md R135 to R138). -/
def lanesAfterIn (w : Width) (q : Lanes) : Lanes :=
  match w with
  | .one => { q with io1 := q.io1.release }
  | .two => { q with io0 := q.io0.release, io1 := q.io1.release }
  | .four => { io0 := q.io0.release, io1 := q.io1.release, io2 := q.io2.release, io3 := q.io3.release }

/-- Where a phase leaves the machine: n levels of the environment used, the clock driven low, the lanes as given, events
appended; nothing else changed (41_qspi.md R131, R138). -/
def qspiLeft (n : Nat) (lanes : Lanes) (events : List Event) (s : State) : State :=
  { consume n s with qclk := Pin.drive false, qio := lanes, trace := s.trace ++ events }

/-! ## What the environment presents -/

/-- The byte whose bit 7 - k is the environment's k-th level from here: eight levels, most significant first. -/
def byteAt (s : State) : Byte := ofLevels 8 (fun i => levelAt s (7 - i))

/-- The acknowledgement in the next three levels, bit 0 first (30_encoding.md R93). -/
def ackAt (s : State) : BitVec 3 := ofLevels 3 (fun i => levelAt s i)

/-- The data word of a read transaction: the 32 levels after the acknowledgement, bit 0 first (30_encoding.md R94). -/
def wordAt (s : State) : Word := ofLevels 32 (fun i => levelAt s (3 + i))

/-- The parity bit of a read transaction: the level after the data word. -/
def parityAt (s : State) : Level := levelAt s 35

/-- The levels the block drove in one event, in the order the lanes are sampled in the opposite direction: the higher lane
first (41_qspi.md R132 to R137). -/
def Event.drivenLevels : Event → List Level
  | .w1 b => [b]
  | .w2 x y => [x, y]
  | .w4 nib => [nib.getLsbD 3, nib.getLsbD 2, nib.getLsbD 1, nib.getLsbD 0]
  | .x1 o _ => [o]
  | .h b => [b]
  | .cs0 => []
  | .cs1 => []
  | .r1 _ => []
  | .r2 _ _ => []
  | .r4 _ => []
  | .z => []
  | .t _ => []
  | .swdZ => []

/-- The bytes that n reads in a row return, each of eight levels (30_encoding.md R100). -/
def bytesAt (n : Nat) (s : State) : List Byte := (List.range n).map (fun k => byteAt (consume (8 * k) s))

/-- The exclusive or of all bits of a word (30_encoding.md R94: `w[0] ^ w[1] ^ ... ^ w[31]`). -/
def xorReduction (w : Word) : Level := (List.range 32).foldl (fun p i => p ^^ w.getLsbD i) false

/-! ## SWD sequences -/

/-- n bits of a value driven by the block, bit 0 first: `Hb` events (42_swd.md R184). -/
def hostBits {w : Nat} (v : BitVec w) (n : Nat) : List Event := (List.range n).map (fun i => .h (v.getLsbD i))

/-- n bits of a value driven by the target, bit 0 first: `Tb` events (42_swd.md R184). -/
def targetBits {w : Nat} (v : BitVec w) (n : Nat) : List Event := (List.range n).map (fun i => .t (v.getLsbD i))

/-- A transaction that is not acknowledged: header, turnaround, acknowledgement, turnaround (42_swd.md R190, R192). -/
def abortedTrace (h : Byte) (ack : BitVec 3) : List Event :=
  hostBits h 8 ++ [.swdZ] ++ targetBits ack 3 ++ [.swdZ]

/-- An acknowledged read: header, turnaround, acknowledgement, data, parity, turnaround (42_swd.md R190). -/
def readTrace (h : Byte) (data : Word) (p : Level) : List Event :=
  hostBits h 8 ++ [.swdZ] ++ targetBits Config.swdAckOk 3 ++ targetBits data 32 ++ [.t p] ++ [.swdZ]

/-- An acknowledged write: header, turnaround, acknowledgement, turnaround, data, parity (42_swd.md R190). -/
def writeTrace (h : Byte) (wdata : Word) : List Event :=
  hostBits h 8 ++ [.swdZ] ++ targetBits Config.swdAckOk 3 ++ [.swdZ] ++ hostBits wdata 32 ++ [.h (parity32 wdata)]

/-- The trace of steps (a) to (d) of `init()` (42_swd.md R200). -/
def connectTrace (n : Nat) (switch : BitVec 16) : List Event :=
  List.replicate n (.h true) ++ hostBits switch 16 ++ List.replicate n (.h true) ++ List.replicate 8 (.h false)

/-! ## Where a transaction leaves the machine (42_swd.md R207) -/

/-- The machine with its SWD pins left as given, n levels of the environment used and events appended. -/
def swdLeft (n : Nat) (dio : Pin) (events : List Event) (s : State) : State :=
  { consume n s with swclk := Pin.drive false, swdio := dio, trace := s.trace ++ events }

/-- After a transaction that is not acknowledged: `SWDIO` released (its level the park bit of the header), `SWCLK` driven
low. -/
def leftAborted (h : Byte) (s : State) : State :=
  swdLeft 3 { dir := .input, out := h.getLsbD 7 } (abortedTrace h (ackAt s)) s

/-- After an acknowledged read, good parity or not: `SWDIO` released, `SWCLK` driven low. -/
def leftRead (h : Byte) (s : State) : State :=
  swdLeft 36 { dir := .input, out := h.getLsbD 7 } (readTrace h (wordAt s) (parityAt s)) s

/-- After an acknowledged write: `SWDIO` driven at the parity level, `SWCLK` driven low. -/
def leftWritten (h : Byte) (wdata : Word) (s : State) : State :=
  swdLeft 3 (Pin.drive (parity32 wdata)) (writeTrace h wdata) s

end Sys2Proof.Machine
end

