-- ==== Sys2Proof/Safety.lean ====
section
/-! DEFINITION. What holds in every state the block can be in between two operations, and how the wire trace tells the
lines of the pins. -/

namespace Sys2Proof.Machine

/-- The event is one of the SWD alphabet (00_scope.md R13): one cycle of `SWCLK`. -/
def Event.isSwd : Event → Bool
  | .h _ => true
  | .t _ => true
  | .swdZ => true
  | .cs0 => false
  | .cs1 => false
  | .w1 _ => false
  | .w2 _ _ => false
  | .w4 _ => false
  | .r1 _ => false
  | .r2 _ _ => false
  | .r4 _ => false
  | .x1 _ _ => false
  | .z => false

/-- The event is a change of the chip select (00_scope.md R13). -/
def Event.isSelect : Event → Bool
  | .cs0 => true
  | .cs1 => true
  | .w1 _ => false
  | .w2 _ _ => false
  | .w4 _ => false
  | .r1 _ => false
  | .r2 _ _ => false
  | .r4 _ => false
  | .x1 _ _ => false
  | .z => false
  | .h _ => false
  | .t _ => false
  | .swdZ => false

/-- The event is one clock pulse on `QCLK` (00_scope.md R13). -/
def Event.isPulse (e : Event) : Bool := !e.isSwd && !e.isSelect

/-- The number of pulses on `QCLK` in a trace (41_qspi.md R168 counts these). -/
def pulses (tr : List Event) : Nat := tr.countP Event.isPulse

/-- The number of SWD cycles in a trace (42_swd.md R208 counts these). -/
def cycles (tr : List Event) : Nat := tr.countP Event.isSwd

/-- The block holds the reset values that 10_state.md R40 states; it states none for `OP_A` and `OP_B`. -/
abbrev Block.HoldsResetValues (b : Block) : Prop :=
  b.res = 0#32 ∧ b.status = 0#1 ∧ b.crcAcc = 0xFFFFFFFF#32 ∧ b.qmode = .standard
    ∧ b.qcs = { dir := .input, out := false } ∧ b.qclk = { dir := .input, out := false }
    ∧ b.qio.io0 = { dir := .input, out := false } ∧ b.qio.io1 = { dir := .input, out := false }
    ∧ b.qio.io2 = { dir := .input, out := false } ∧ b.qio.io3 = { dir := .input, out := false }
    ∧ b.swclk = { dir := .input, out := false } ∧ b.swdio = { dir := .input, out := false }

/-- The two states' operands are the same. -/
abbrev SameOperands (s t : State) : Prop := s.opA = t.opA ∧ s.opB = t.opB

/-- The environment is the same in the two states: it will present the same levels (20_memory.md R56). -/
abbrev SameEnvironment (s t : State) : Prop := s.answers = t.answers ∧ s.sampleNo = t.sampleNo

/-- The CRC unit's row of 10_state.md R20 is the same. -/
abbrev SameCrc (s t : State) : Prop := s.crcAcc = t.crcAcc

/-- The QSPI engine's rows of 10_state.md R20 are the same. -/
abbrev SameQspi (s t : State) : Prop := s.qmode = t.qmode ∧ s.qcs = t.qcs ∧ s.qclk = t.qclk ∧ s.qio = t.qio

/-- The SWD engine's rows of 10_state.md R20 are the same. -/
abbrev SameSwd (s t : State) : Prop := s.swclk = t.swclk ∧ s.swdio = t.swdio

/-- The rows of a unit are the same (10_state.md R20, R21). -/
def SameRows (u : BlockUnit) (s t : State) : Prop :=
  match u with
  | .crc => SameCrc s t
  | .qspi => SameQspi s t
  | .swd => SameSwd s t

/-- A failure leaves `RES` 0 (30_encoding.md R81). -/
abbrev FailClearsResult (s : State) : Prop := s.status = 1#1 → s.res = 0#32

/-- Both clocks rest low (41_qspi.md R131, 42_swd.md R181). -/
abbrev ClocksRestLow (s : State) : Prop := s.qclk.out = false ∧ s.swclk.out = false

/-- `QIO[2]` and `QIO[3]` are driven and released together: only 4-wire phases and releases of all lanes touch them
(41_qspi.md R138). -/
abbrev UpperLanesTogether (s : State) : Prop := s.qio.io2.dir = s.qio.io3.dir

/-- A data line is driven only where its clock is: every driven bit is followed by a pulse or cycle (41_qspi.md R131,
42_swd.md R181, R182). -/
abbrev DrivenNeedsClock (s : State) : Prop :=
  ((s.qio.io0.dir = .output ∨ s.qio.io1.dir = .output ∨ s.qio.io2.dir = .output ∨ s.qio.io3.dir = .output) →
      s.qclk.dir = .output)
    ∧ (s.swdio.dir = .output → s.swclk.dir = .output)

/-- The last SWD event of the trace tells the state of `SWDIO` (42_swd.md R182, R183, R185, R207). -/
abbrev LineAgrees (s : State) : Prop :=
  match (s.trace.filter Event.isSwd).getLast? with
  | none => s.swdio.dir = .input
  | some (.h b) => s.swdio = Pin.drive b
  | some _ => s.swdio.dir = .input

/-- The last select event of the trace tells the state of `QCS` (41_qspi.md R140 to R142, R166). -/
abbrev SelectAgrees (s : State) : Prop :=
  match (s.trace.filter Event.isSelect).getLast? with
  | none => s.qcs.dir = .input
  | some .cs0 => s.qcs = Pin.drive false
  | some _ => s.qcs = Pin.drive true

/-- The invariant of the machine between two operations. -/
def StateInvariant (s : State) : Prop :=
  FailClearsResult s ∧ ClocksRestLow s ∧ UpperLanesTogether s ∧ DrivenNeedsClock s ∧ LineAgrees s ∧ SelectAgrees s

/-- A safe outcome of a step: a next state that keeps the invariant; the block never halts (60_exceptions.md R230,
R238). -/
def SafeStep (s : State) : Prop := ∃ t, step s = .next t ∧ StateInvariant t

end Sys2Proof.Machine
end

