-- ==== Sys2Proof/Certificates/Slice0/Obligations.lean ====
section
/-! DEFINITION. The statements for the provers. "log n" is notes/assumptions/n.md. -/

open Sys2Proof Sys2Proof.Machine

/-! ## Reset, the step, the invariant -/

/-- 10_state.md R40: the values the spec gives for reset. It gives none for `OP_A` and `OP_B` (log 1). -/
def Obligations.ResetLeavesTheSpecValues : Prop := State.reset.toBlock.HoldsResetValues

/-- A reset event leaves the block with the values that 10_state.md, section 9, states and with nothing of what it held
before, as at power-up (70_reset_and_hazards.md, section 1). Two things here are the model's choice: the event comes as an
item of the inbox (log 14), and `OP_A` and `OP_B`, which the spec leaves unspecified, are those of `State.reset`, 0
(log 1). -/
def Obligations.ResetEventForgetsTheBlock : Prop :=
  ∀ (s : State) (rest : List Input), s.inbox = .reset :: rest →
    ∃ t, step s = .next t ∧ t.toBlock.HoldsResetValues ∧ t.toBlock = State.reset.toBlock

/-- The invariant holds after reset. -/
def Obligations.ResetMeetsTheInvariant : Prop := StateInvariant State.reset

/-- Every step keeps the invariant: a failure leaves `RES` 0 (R81), both clocks rest low (R131, R181), `QIO[2]` and
`QIO[3]` are driven and released together (R138), a data line is driven only where its clock is (R131, R181), and the
wire trace tells the state of `SWDIO` and of `QCS` (R140 to R142, R166, R182 to R185). -/
def Obligations.StepKeepsTheInvariant : Prop :=
  ∀ s t : State, StateInvariant s → step s = .next t → StateInvariant t

/-- What a step does with its next input: a request's operands are written (log 13) and its instruction runs; a wire code
runs its row (log 6); a word that decodes to nothing is rejected (logs 11, 13); a reset event takes nothing from the
outside and starts a new wire trace (logs 5, 14); with no input the block is idle (log 2). -/
def Obligations.StepRunsTheDecodedInstruction : Prop :=
  (∀ (s : State) (r : Record) (rest : List Input) (i : Instr), s.inbox = .word (.request r) :: rest →
      decode (.request r) = .ok i →
      step s = exec i { s with inbox := rest, opA := r.extractLsb' 32 32, opB := r.extractLsb' 0 32 })
    ∧ (∀ (s : State) (f : WireFormat) (c : Byte) (rest : List Input) (i : Instr), s.inbox = .word (.wire f c) :: rest →
      decode (.wire f c) = .ok i → step s = exec i { s with inbox := rest })
    ∧ (∀ (s : State) (r : Record) (rest : List Input) (e : Reject), s.inbox = .word (.request r) :: rest →
      decode (.request r) = .error e →
      step s = onReject e { s with inbox := rest, opA := r.extractLsb' 32 32, opB := r.extractLsb' 0 32 })
    ∧ (∀ (s : State) (f : WireFormat) (c : Byte) (rest : List Input) (e : Reject), s.inbox = .word (.wire f c) :: rest →
      decode (.wire f c) = .error e → step s = .fault (.unproducibleWord e))
    ∧ (∀ (s : State) (rest : List Input), s.inbox = .reset :: rest →
      ∃ t, step s = .next t ∧ t.inbox = rest ∧ SameEnvironment s t ∧ t.trace = [])
    ∧ (∀ s : State, s.inbox = [] → step s = .next s)

/-- Every instruction runs to completion, and so does every request, whatever its bits. -/
def Obligations.EverythingRunsToCompletion : Prop :=
  (∀ (i : Instr) (s : State), ∃ t, exec i s = .next t)
    ∧ (∀ (s : State) (r : Record) (rest : List Input), s.inbox = .word (.request r) :: rest → ∃ t, step s = .next t)

/-! ## Decoding and encoding -/

/-- The decoder gives back every well-formed instruction from its encoding, and the record's operand fields hold the
operands. -/
def Obligations.DecodeEncodeRoundTrip : Prop :=
  ∀ (i : Instr) (a b : Word), i.WellFormed →
    decode (encode i a b) = .ok i
      ∧ (i.isOperation = true →
          ∃ r, encode i a b = .request r ∧ r.extractLsb' 32 32 = a ∧ r.extractLsb' 0 32 = b)

/-- Whatever decodes, decodes to a well-formed instruction, and is one of its encodings. -/
def Obligations.EncodeDecodeRoundTrip : Prop :=
  ∀ (w : PortWord) (i : Instr), decode w = .ok i → i.WellFormed ∧ ∃ a b, encode i a b = w

/-- 30_encoding.md R82: the twenty-two operation codes, and with them the codes of the other tables of that file (R85,
R91, R93, R95, R102). -/
def Obligations.SpecWordsDecode : Prop :=
  (∀ p ∈ [(0x01#8, Instr.crcInit), (0x02#8, .crcUpdate), (0x03#8, .crcFinal), (0x10#8, .qspiInit), (0x11#8, .qspiCsLow),
      (0x12#8, .qspiCsHigh), (0x13#8, .qspiSetMode), (0x14#8, .qspiGetMode), (0x15#8, .qspiSendCommand),
      (0x16#8, .qspiSendAddress), (0x17#8, .qspiSendDummy), (0x18#8, .qspiWriteData), (0x19#8, .qspiReadData),
      (0x1A#8, .qspiTransfer), (0x1B#8, .qspiEnterQpi), (0x1C#8, .qspiExitQpi), (0x20#8, .swdInit), (0x21#8, .swdReadDp),
      (0x22#8, .swdWriteDp), (0x23#8, .swdReadAp), (0x24#8, .swdWriteAp), (0x25#8, .swdTurnaround)],
      decodeOpcode p.1 = .ok p.2)
    ∧ decode (.request 0x1600123456_00000003#72) = .ok .qspiSendAddress
    ∧ decode (.wire .swdRequest 0xA5#8) = .ok (.swdRequest false true false false true)
    ∧ decode (.wire .swdRequest 0x8B#8) = .ok (.swdRequest true false true false false)
    ∧ decode (.wire .swdHeader 0xA5#8) = .ok .swdHdrDpRead0
    ∧ decode (.wire .swdHeader 0xB1#8) = .ok .swdHdrDpWrite8
    ∧ decode (.wire .swdAck 0x1#8) = .ok .swdAckOk
    ∧ decode (.wire .swdAck 0x7#8) = .ok .swdAckBad7
    ∧ decode (.wire .qspiCmdByte 0x38#8) = .ok .qpiEnterByte
    ∧ decode (.wire .qspiCmdByte 0xFF#8) = .ok .qpiExitByte
    ∧ decode (.wire .qmode 0x5#8) = .ok .qmodeQpi

/-- 30_encoding.md R80: the fields of a request lie where the table says and fill it, the code alone is decoded, and its
high nibble is the unit (0 = CRC, 1 = QSPI, 2 = SWD). -/
def Obligations.RequestFieldsAndUnits : Prop :=
  (∀ (c : Byte) (a b : Word), recordOpc (packRecord c a b) = c ∧ recordOpA (packRecord c a b) = a
      ∧ recordOpB (packRecord c a b) = b)
    ∧ (∀ r : Record, packRecord (r.extractLsb' 64 8) (r.extractLsb' 32 32) (r.extractLsb' 0 32) = r)
    ∧ (∀ r r' : Record, r.extractLsb' 64 8 = r'.extractLsb' 64 8 → decode (.request r) = decode (.request r'))
    ∧ (∀ (c : Byte) (i : Instr), decodeOpcode c = .ok i →
        (c.extractLsb' 4 4 = 0#4 ∧ i.unit? = some .crc) ∨ (c.extractLsb' 4 4 = 1#4 ∧ i.unit? = some .qspi)
          ∨ (c.extractLsb' 4 4 = 2#4 ∧ i.unit? = some .swd))

/-- 30_encoding.md R84: the 234 undefined codes are rejected, and the request fails with no change to any state other than
`STATUS` and `RES`, and no pin event. -/
def Obligations.UndefinedOpcodeRefused : Prop :=
  (∀ (s : State) (r : Record),
      r.extractLsb' 64 8 ∉ [0x01#8, 0x02#8, 0x03#8, 0x10#8, 0x11#8, 0x12#8, 0x13#8, 0x14#8, 0x15#8, 0x16#8, 0x17#8,
        0x18#8, 0x19#8, 0x1A#8, 0x1B#8, 0x1C#8, 0x20#8, 0x21#8, 0x22#8, 0x23#8, 0x24#8, 0x25#8] →
      ∃ e, decode (.request r) = .error e ∧ onReject e s = .next { s with status := 1#1, res := 0#32 })
    ∧ ((List.range 256).filter (fun n => match decodeOpcode (BitVec.ofNat 8 n) with
        | .ok _ => false
        | .error _ => true)).length = 234

/-! ## What holds of every operation -/

/-- 10_state.md R26 and 30_encoding.md R81: how an operation ends; every operation writes `STATUS` and `RES`, and none
reads them, so that no operation depends on an earlier one's outcome. `STATUS` is 0 after reset. -/
def Obligations.StatusAndResultOfEveryOperation : Prop :=
  (∀ (s : State) (v : Word), returnOk s = { s with status := 0#1, res := 0#32 }
      ∧ returnValue v s = { s with status := 0#1, res := v } ∧ returnFail s = { s with status := 1#1, res := 0#32 })
    ∧ (∀ (i : Instr) (s : State) (st : BitVec 1) (v : Word), i.isOperation = true →
        exec i { s with status := st, res := v } = exec i s)
    ∧ (∀ (i : Instr) (s : State), i.isOperation = true →
        ∃ t, exec i s = .next t ∧ (t.status = 0#1 ∨ (t.status = 1#1 ∧ t.res = 0#32)))
    ∧ State.reset.status = 0#1

/-- The operations that never fail (60_exceptions.md, section 1). -/
def Obligations.OperationsThatNeverFail : Prop :=
  ∀ i ∈ [Instr.crcInit, .crcUpdate, .crcFinal, .qspiInit, .qspiCsLow, .qspiCsHigh, .qspiGetMode, .qspiSendCommand,
      .qspiSendDummy, .qspiWriteData, .qspiReadData, .qspiEnterQpi, .qspiExitQpi, .swdTurnaround],
    ∀ s : State, ∃ t, exec i s = .next t ∧ t.status = 0#1

/-- The operand bits an operation does not read are ignored (30_encoding.md, section 1): changing them changes nothing but
the operand registers themselves. `operandMask` lists the bits each operation reads; of a 3-byte address the top byte is
not read either. -/
def Obligations.UnreadOperandBitsAreIgnored : Prop :=
  (∀ (i : Instr) (s : State) (a b : Word), i.isOperation = true →
      s.opA &&& (operandMask i).1 = a &&& (operandMask i).1 → s.opB &&& (operandMask i).2 = b &&& (operandMask i).2 →
      ∃ t, exec i s = .next t ∧ exec i { s with opA := a, opB := b } = .next { t with opA := a, opB := b })
    ∧ (∀ (s : State) (a : Word), s.opB = 3#32 → s.opA &&& 0xFFFFFF#32 = a &&& 0xFFFFFF#32 →
        ∃ t, exec .qspiSendAddress s = .next t ∧ exec .qspiSendAddress { s with opA := a } = .next { t with opA := a })

/-- 10_state.md R21: an operation writes its own unit's rows and the four port registers only, and reads only those: from
two states that agree on them (and meet the same environment) it leaves states that agree on them, and adds the same
events to the wire trace. The operands, which the caller writes, are never written. -/
def Obligations.UnitsShareNothing : Prop :=
  ∀ (i : Instr) (u : BlockUnit) (s : State), i.unit? = some u →
    (∃ t, exec i s = .next t ∧ (∀ v : BlockUnit, v ≠ u → SameRows v s t) ∧ SameOperands s t ∧ t.inbox = s.inbox)
      ∧ ∀ s' : State, SameRows u s s' → SameOperands s s' → SameEnvironment s s' →
        ∃ (t t' : State) (e : List Event), exec i s = .next t ∧ exec i s' = .next t' ∧ SameRows u t t'
          ∧ t.status = t'.status ∧ t.res = t'.res ∧ SameEnvironment t t'
          ∧ t.trace = s.trace ++ e ∧ t'.trace = s'.trace ++ e

/-- The wire trace only grows, whatever runs, and a unit adds events of its own alphabet only, the CRC unit none
(20_memory.md, section 8; 00_scope.md, section 5). -/
def Obligations.TraceGrowsInItsOwnAlphabet : Prop :=
  ∀ (i : Instr) (s : State), ∃ (t : State) (e : List Event), exec i s = .next t ∧ t.trace = s.trace ++ e
    ∧ (i.unit? = some .crc → e = []) ∧ (i.unit? = some .qspi → ∀ x ∈ e, x.isSwd = false)
    ∧ (i.unit? = some .swd → ∀ x ∈ e, x.isSwd = true)

/-! ## The CRC unit -/

/-- 40_crc.md R110, R111: `crc32` byte by byte, between an initial value and a final exclusive or of `0xFFFFFFFF`. -/
def Obligations.CrcFunction : Prop :=
  crc32 [] = 0xFFFFFFFF#32 ^^^ 0xFFFFFFFF#32
    ∧ ∀ (m : List Byte) (b : Byte), crc32 (m ++ [b])
        = (((crc32 m ^^^ 0xFFFFFFFF#32) >>> 8)
            ^^^ crcTable.getD (((crc32 m ^^^ 0xFFFFFFFF#32) ^^^ b.setWidth 32) &&& 0xFF#32).toNat 0#32) ^^^ 0xFFFFFFFF#32

/-- 40_crc.md R113: the table has 256 entries, and each is what the generator of the rule computes. -/
def Obligations.CrcTableIsGenerated : Prop :=
  crcTable.length = 256
    ∧ ∀ i : Byte, crcTable.getD i.toNat 0#32 =
        loop 8 (fun _ c => if c.getLsbD 0 then (c >>> 1) ^^^ 0xEDB88320#32 else c >>> 1) (i.setWidth 32)

/-- The table-driven step is the bit-serial one (40_crc.md, section 1: the spec's own derivation). -/
def Obligations.CrcStepIsBitSerial : Prop :=
  ∀ (acc : Word) (b : Byte), crcStep acc b =
    loop 8 (fun _ c => if c.getLsbD 0 then (c >>> 1) ^^^ 0xEDB88320#32 else c >>> 1) (acc ^^^ b.setWidth 32)

/-- 40_crc.md R115: `CRC_INIT`; twice is the same as once; `CRC_FINAL` after it returns 0. -/
def Obligations.CrcInitEffect : Prop :=
  decodeOpcode 0x01#8 = .ok .crcInit
    ∧ ∀ s : State,
      exec .crcInit s = .next { s with crcAcc := 0xFFFFFFFF#32, res := 0#32, status := 0#1 }
        ∧ exec .crcInit { s with crcAcc := 0xFFFFFFFF#32, res := 0#32, status := 0#1 }
            = .next { s with crcAcc := 0xFFFFFFFF#32, res := 0#32, status := 0#1 }
        ∧ exec .crcFinal { s with crcAcc := 0xFFFFFFFF#32, res := 0#32, status := 0#1 }
            = .next { s with crcAcc := 0xFFFFFFFF#32, res := 0#32, status := 0#1 }

/-- 40_crc.md R112, R116: `CRC_UPDATE` with the byte `OP_A[7:0]`; the top 8 bits of the new accumulator are those of the
table entry; the rule's two numeric cases. -/
def Obligations.CrcUpdateEffect : Prop :=
  decodeOpcode 0x02#8 = .ok .crcUpdate
    ∧ (∀ s : State, exec .crcUpdate s = .next { s with
        crcAcc := (s.crcAcc >>> 8)
          ^^^ crcTable.getD ((s.crcAcc ^^^ (s.opA &&& 0xFF#32)) &&& 0xFF#32).toNat 0#32
        res := 0#32
        status := 0#1 })
    ∧ (∀ (acc : Word) (b : Byte), (crcStep acc b).extractLsb' 24 8
        = (crcTable.getD ((acc ^^^ b.setWidth 32) &&& 0xFF#32).toNat 0#32).extractLsb' 24 8)
    ∧ crcStep 0xFFFFFFFF#32 0x00#8 = 0x2DFD1072#32 ∧ crcStep 0xFFFFFFFF#32 0x31#8 = 0x7C231048#32

/-- 40_crc.md R117: `CRC_FINAL` does not write the accumulator. -/
def Obligations.CrcFinalEffect : Prop :=
  decodeOpcode 0x03#8 = .ok .crcFinal
    ∧ (∀ s : State, exec .crcFinal s = .next { s with res := s.crcAcc ^^^ 0xFFFFFFFF#32, status := 0#1 })
    ∧ 0x340BC6D9#32 ^^^ 0xFFFFFFFF#32 = 0xCBF43926#32

/-- The register form equals the function, whatever the state before it (40_crc.md, section 2: the spec's own derivation):
the script `CRC32 m` leaves `RES = crc32 m`, and touches neither the pins nor the mode nor the wire trace. -/
def Obligations.CrcScriptComputesTheFunction : Prop :=
  ∀ (m : List Byte) (s : State) (rest : List Input), s.inbox = crc32Script m ++ rest →
    ∃ t, steps (m.length + 2) s = .next t ∧ t.res = crc32 m ∧ t.status = 0#1
      ∧ t.crcAcc = crc32 m ^^^ 0xFFFFFFFF#32 ∧ t.inbox = rest ∧ SameQspi s t ∧ SameSwd s t
      ∧ SameEnvironment s t ∧ t.trace = s.trace

/-- The check value, the empty input and the residue (40_crc.md, section 3: the spec's own derivations). -/
def Obligations.CrcResidueOfEveryMessage : Prop :=
  crc32 [] = 0#32 ∧ crc32 [0x31#8, 0x32#8, 0x33#8, 0x34#8, 0x35#8, 0x36#8, 0x37#8, 0x38#8, 0x39#8] = 0xCBF43926#32
    ∧ ∀ m : List Byte, crcFold 0xFFFFFFFF#32 (m ++ littleEndian32 (crc32 m)) = 0xDEBB20E3#32
        ∧ crc32 (m ++ littleEndian32 (crc32 m)) = 0x2144DF1C#32

/-- One step is a bijection of the accumulator for a fixed byte, and injective in the byte (40_crc.md, section 3: the spec's
own derivation). -/
def Obligations.CrcStepLosesNothing : Prop :=
  (∀ (b : Byte) (a a' : Word), crcStep a b = crcStep a' b → a = a')
    ∧ (∀ (b : Byte) (c : Word), ∃ a, crcStep a b = c)
    ∧ (∀ (a : Word) (b b' : Byte), crcStep a b = crcStep a b' → b = b')

/-- The source's property, "no silent acceptance" (40_crc.md, section 3): one corrupted byte always changes the CRC, and a
frame with one corrupted byte, payload, header or CRC field alike, is never accepted. `frameAccepted` is the model's check
(log 15): it takes the last four bytes as the CRC field and does not parse the length, so for the length bytes (offsets 4
and 5) the rejection is that of a receiver who knows where the frame ends. -/
def Obligations.OneCorruptedByteIsDetected : Prop :=
  (∀ (p q : List Byte) (x y : Byte), x ≠ y → crc32 (p ++ [x] ++ q) ≠ crc32 (p ++ [y] ++ q))
    ∧ ∀ (sof : Byte) (p : Packet) (k : Nat) (v : Byte), k < (frame sof p).length → (frame sof p)[k]? ≠ some v →
        frameAccepted ((frame sof p).set k v) = false

/-- 20_memory.md R61, R62: the frame of a packet, offset by offset. `c` is the CRC over the offsets 0 to 5+L. -/
def Obligations.FrameLayout : Prop :=
  ∀ (sof : Byte) (p : Packet), p.payload.length ≤ 4096 →
    (frame sof p).length = 10 + p.payload.length
      ∧ (frame sof p)[0]? = some sof ∧ (frame sof p)[1]? = some p.sequence ∧ (frame sof p)[2]? = some p.command
      ∧ (frame sof p)[3]? = some p.flags
      ∧ (frame sof p)[4]? = some ((BitVec.ofNat 16 p.payload.length).extractLsb' 0 8)
      ∧ (frame sof p)[5]? = some ((BitVec.ofNat 16 p.payload.length).extractLsb' 8 8)
      ∧ ((frame sof p).drop 6).take p.payload.length = p.payload
      ∧ (∀ c : Word, c = crc32 ((frame sof p).take (6 + p.payload.length)) →
          (frame sof p)[6 + p.payload.length]? = some (c.extractLsb' 0 8)
            ∧ (frame sof p)[7 + p.payload.length]? = some (c.extractLsb' 8 8)
            ∧ (frame sof p)[8 + p.payload.length]? = some (c.extractLsb' 16 8)
            ∧ (frame sof p)[9 + p.payload.length]? = some (c.extractLsb' 24 8))
      ∧ 6 ≤ ((frame sof p).take (6 + p.payload.length)).length
      ∧ ((frame sof p).take (6 + p.payload.length)).length ≤ 4102
      ∧ p.isResponse = p.flags.getLsbD 0 ∧ p.isError = p.flags.getLsbD 1 ∧ p.isAsync = p.flags.getLsbD 2

/-- The receiver's check accepts every frame, and accepts a byte sequence exactly when all of its bytes leave the residue
in the accumulator (20_memory.md, section 7: the equivalence is the spec's own derivation). `frameAccepted` is the model's
check (log 15): it takes the last four bytes as the CRC field and does not parse the length. -/
def Obligations.FrameCheckIsTheResidueTest : Prop :=
  (∀ (sof : Byte) (p : Packet), frameAccepted (frame sof p) = true)
    ∧ ∀ bytes : List Byte, 4 ≤ bytes.length →
        (frameAccepted bytes = true ↔ crcFold 0xFFFFFFFF#32 bytes = 0xDEBB20E3#32)

/-! ## The QSPI engine -/

/-- 41_qspi.md R140: `QSPI_INIT`: the pins, the trace, nothing else (`QMODE` is not written); issued again it gives the
same state and one more `CS1`. -/
def Obligations.QspiInitEffect : Prop :=
  decodeOpcode 0x10#8 = .ok .qspiInit
    ∧ ∀ s : State, ∃ t, exec .qspiInit s = .next t
      ∧ t = { s with
          qcs := { dir := .output, out := true }
          qclk := { dir := .output, out := false }
          qio := {
            io0 := { dir := .input, out := s.qio.io0.out }
            io1 := { dir := .input, out := s.qio.io1.out }
            io2 := { dir := .input, out := s.qio.io2.out }
            io3 := { dir := .input, out := s.qio.io3.out } }
          trace := s.trace ++ [.cs1]
          res := 0#32
          status := 0#1 }
      ∧ exec .qspiInit t = .next { t with trace := t.trace ++ [.cs1] }

/-- 41_qspi.md R141, R142: the chip select is driven low or high, and its event is appended even when it already was. -/
def Obligations.ChipSelectEffect : Prop :=
  decodeOpcode 0x11#8 = .ok .qspiCsLow ∧ decodeOpcode 0x12#8 = .ok .qspiCsHigh
    ∧ ∀ s : State,
      exec .qspiCsLow s = .next { s with
        qcs := { dir := .output, out := false }, trace := s.trace ++ [.cs0], res := 0#32, status := 0#1 }
      ∧ exec .qspiCsHigh s = .next { s with
        qcs := { dir := .output, out := true }, trace := s.trace ++ [.cs1], res := 0#32, status := 0#1 }

/-- 41_qspi.md R166: nothing else that runs changes `QCS`, and no other event of the trace is a select event. -/
def Obligations.ChipSelectIsTheCallers : Prop :=
  ∀ (i : Instr) (s : State), i ∉ [Instr.qspiInit, .qspiCsLow, .qspiCsHigh] →
    ∃ (t : State) (e : List Event), exec i s = .next t ∧ t.qcs = s.qcs ∧ t.trace = s.trace ++ e
      ∧ ∀ x ∈ e, x.isSelect = false

/-- 30_encoding.md R85 and 41_qspi.md R143: `QSPI_SET_MODE` with each of the six codes, and with any larger operand. -/
def Obligations.SetModeEffect : Prop :=
  decodeOpcode 0x13#8 = .ok .qspiSetMode
    ∧ (∀ p ∈ [(0#32, Mode.standard), (1#32, .dualOut), (2#32, .dualIo), (3#32, .quadOut), (4#32, .quadIo), (5#32, .qpi)],
        ∀ s : State, s.opA = p.1 →
          exec .qspiSetMode s = .next { s with qmode := p.2, res := 0#32, status := 0#1 })
    ∧ (∀ s : State, s.opA > 5#32 → exec .qspiSetMode s = .next { s with res := 0#32, status := 1#1 })

/-- 41_qspi.md R144: `QSPI_GET_MODE` returns the code of the mode held. -/
def Obligations.GetModeEffect : Prop :=
  decodeOpcode 0x14#8 = .ok .qspiGetMode
    ∧ ∀ p ∈ [(0#32, Mode.standard), (1#32, .dualOut), (2#32, .dualIo), (3#32, .quadOut), (4#32, .quadIo), (5#32, .qpi)],
      ∀ s : State, s.qmode = p.2 → exec .qspiGetMode s = .next { s with res := p.1, status := 0#1 }

/-- 10_state.md R30: only three operations write `QMODE`, only six depend on it, and it is `STANDARD` after reset. -/
def Obligations.ModeIsWrittenAndReadByTheListed : Prop :=
  State.reset.qmode = .standard
    ∧ (∀ (i : Instr) (s : State), i.isOperation = true → i ∉ [Instr.qspiSetMode, .qspiEnterQpi, .qspiExitQpi] →
        ∃ t, exec i s = .next t ∧ t.qmode = s.qmode)
    ∧ (∀ (i : Instr) (s : State) (m : Mode), i.isOperation = true →
        i ∉ [Instr.qspiSendCommand, .qspiSendAddress, .qspiWriteData, .qspiReadData, .qspiTransfer, .qspiGetMode] →
        ∃ t t', exec i s = .next t ∧ exec i { s with qmode := m } = .next t' ∧ t = { t' with qmode := t.qmode })

/-- 30_encoding.md R86: the widths of the three phases in the six modes. -/
def Obligations.WidthsPerMode : Prop :=
  ∀ r ∈ [(Mode.standard, 1, 1, 1), (.dualOut, 1, 1, 2), (.dualIo, 1, 2, 2), (.quadOut, 1, 1, 4), (.quadIo, 1, 4, 4),
      (.qpi, 4, 4, 4)],
    (cmdw r.1).lanes = r.2.1 ∧ (addrw r.1).lanes = r.2.2.1 ∧ (dataw r.1).lanes = r.2.2.2

/-- 41_qspi.md R150: the command byte `OP_A[7:0]` goes out on four lanes in QPI and on one in every other mode; `QCS`, the
mode and the lanes not used are untouched. -/
def Obligations.SendCommandEffect : Prop :=
  decodeOpcode 0x15#8 = .ok .qspiSendCommand
    ∧ ∀ s : State,
      (s.qmode ≠ .qpi → exec .qspiSendCommand s = .next
        { qspiLeft 0 (lanesAfterOut .one (s.opA.extractLsb' 0 8) s.qio) (wire1 (s.opA.extractLsb' 0 8)) s with
          res := 0#32, status := 0#1 })
      ∧ (s.qmode = .qpi → exec .qspiSendCommand s = .next
        { qspiLeft 0 (lanesAfterOut .four (s.opA.extractLsb' 0 8) s.qio) (wire4 (s.opA.extractLsb' 0 8)) s with
          res := 0#32, status := 0#1 })

/-- 30_encoding.md R90 and 41_qspi.md R151: the three or four address bytes, most significant first, each on the lanes of
the mode's address width; any other length is refused with no pulse. -/
def Obligations.SendAddressEffect : Prop :=
  decodeOpcode 0x16#8 = .ok .qspiSendAddress
    ∧ ∀ s : State,
      (s.opB = 3#32 → exec .qspiSendAddress s = .next
        { qspiLeft 0 (lanesAfterOut (addrw s.qmode) (s.opA.extractLsb' 0 8) s.qio)
            (wireOut (addrw s.qmode) (s.opA.extractLsb' 16 8) ++ wireOut (addrw s.qmode) (s.opA.extractLsb' 8 8)
              ++ wireOut (addrw s.qmode) (s.opA.extractLsb' 0 8)) s with
          res := 0#32, status := 0#1 })
      ∧ (s.opB = 4#32 → exec .qspiSendAddress s = .next
        { qspiLeft 0 (lanesAfterOut (addrw s.qmode) (s.opA.extractLsb' 0 8) s.qio)
            (wireOut (addrw s.qmode) (s.opA.extractLsb' 24 8) ++ wireOut (addrw s.qmode) (s.opA.extractLsb' 16 8)
              ++ wireOut (addrw s.qmode) (s.opA.extractLsb' 8 8) ++ wireOut (addrw s.qmode) (s.opA.extractLsb' 0 8)) s with
          res := 0#32, status := 0#1 })
      ∧ (s.opB ≠ 3#32 → s.opB ≠ 4#32 → exec .qspiSendAddress s = .next { s with res := 0#32, status := 1#1 })

/-- 41_qspi.md R152: the four lanes are released and `OP_A` pulses follow, whatever the mode; with none the clock is not
touched. -/
def Obligations.SendDummyEffect : Prop :=
  decodeOpcode 0x17#8 = .ok .qspiSendDummy
    ∧ ∀ s : State, exec .qspiSendDummy s = .next { s with
        qio := {
          io0 := { dir := .input, out := s.qio.io0.out }
          io1 := { dir := .input, out := s.qio.io1.out }
          io2 := { dir := .input, out := s.qio.io2.out }
          io3 := { dir := .input, out := s.qio.io3.out } }
        qclk := if s.opA = 0#32 then s.qclk else { dir := .output, out := false }
        trace := s.trace ++ List.replicate s.opA.toNat .z
        res := 0#32
        status := 0#1 }

/-- 41_qspi.md R153: the byte `OP_A[7:0]` goes out on one lane in `STANDARD`, on two in the dual modes, on four in the quad
modes and QPI. -/
def Obligations.WriteDataEffect : Prop :=
  decodeOpcode 0x18#8 = .ok .qspiWriteData
    ∧ ∀ s : State, ∀ p ∈ [(Mode.standard, Width.one), (.dualOut, .two), (.dualIo, .two), (.quadOut, .four),
        (.quadIo, .four), (.qpi, .four)], s.qmode = p.1 →
      exec .qspiWriteData s = .next
        { qspiLeft 0 (lanesAfterOut p.2 (s.opA.extractLsb' 0 8) s.qio) (wireOut p.2 (s.opA.extractLsb' 0 8)) s with
          res := 0#32, status := 0#1 }

/-- 41_qspi.md R154: the next eight levels of the environment, most significant first, are the byte returned, whatever the
width; the lanes of the width are left released. -/
def Obligations.ReadDataEffect : Prop :=
  decodeOpcode 0x19#8 = .ok .qspiReadData
    ∧ ∀ s : State, ∀ p ∈ [(Mode.standard, Width.one), (.dualOut, .two), (.dualIo, .two), (.quadOut, .four),
        (.quadIo, .four), (.qpi, .four)], s.qmode = p.1 →
      exec .qspiReadData s = .next
        { qspiLeft 8 (lanesAfterIn p.2 s.qio) (wireIn p.2 (byteAt s)) s with
          res := (byteAt s).setWidth 32, status := 0#1 }

/-- 41_qspi.md R155: full duplex in `STANDARD`; refused with no pulse in every other mode. -/
def Obligations.TransferEffect : Prop :=
  decodeOpcode 0x1A#8 = .ok .qspiTransfer
    ∧ ∀ s : State,
      (s.qmode = .standard → exec .qspiTransfer s = .next
        { qspiLeft 8
            { s.qio with
              io0 := { dir := .output, out := s.opA.getLsbD 0 }
              io1 := { dir := .input, out := s.qio.io1.out } }
            (wireDuplex (s.opA.extractLsb' 0 8) (byteAt s)) s with
          res := (byteAt s).setWidth 32, status := 0#1 })
      ∧ (s.qmode ≠ .standard → exec .qspiTransfer s = .next { s with res := 0#32, status := 1#1 })

/-- 41_qspi.md R160, R161 (and 30_encoding.md R102): `0x38` on one lane, then the mode is QPI; `0xFF` on four lanes, then
it is `STANDARD`; each from every mode, and neither touches `QCS`. -/
def Obligations.EnterAndExitQpiEffect : Prop :=
  decodeOpcode 0x1B#8 = .ok .qspiEnterQpi ∧ decodeOpcode 0x1C#8 = .ok .qspiExitQpi
    ∧ ∀ s : State,
      exec .qspiEnterQpi s = .next
        { qspiLeft 0 { s.qio with io0 := { dir := .output, out := false } }
            [.w1 false, .w1 false, .w1 true, .w1 true, .w1 true, .w1 false, .w1 false, .w1 false] s with
          qmode := .qpi, res := 0#32, status := 0#1 }
      ∧ exec .qspiExitQpi s = .next
        { qspiLeft 0
            { io0 := { dir := .output, out := true }, io1 := { dir := .output, out := true }
              io2 := { dir := .output, out := true }, io3 := { dir := .output, out := true } }
            [.w4 0xF#4, .w4 0xF#4] s with
          qmode := .standard, res := 0#32, status := 0#1 }

/-- The pulses of each operation in each mode (41_qspi.md, section 6: the spec's own count). A row is the mode, then the
pulses of `sendCommand`, of a 3-byte and of a 4-byte `sendAddress`, of `writeData` and `readData`. -/
def Obligations.PulsesPerOperation : Prop :=
  (∀ r ∈ [(Mode.standard, 8, 24, 32, 8), (.dualOut, 8, 24, 32, 4), (.dualIo, 8, 12, 16, 4), (.quadOut, 8, 24, 32, 2),
        (.quadIo, 8, 6, 8, 2), (.qpi, 2, 6, 8, 2)],
      ∀ s : State, s.qmode = r.1 →
        (∃ t, exec .qspiSendCommand s = .next t ∧ pulses t.trace = pulses s.trace + r.2.1)
        ∧ (s.opB = 3#32 → ∃ t, exec .qspiSendAddress s = .next t ∧ pulses t.trace = pulses s.trace + r.2.2.1)
        ∧ (s.opB = 4#32 → ∃ t, exec .qspiSendAddress s = .next t ∧ pulses t.trace = pulses s.trace + r.2.2.2.1)
        ∧ (∃ t, exec .qspiWriteData s = .next t ∧ pulses t.trace = pulses s.trace + r.2.2.2.2)
        ∧ (∃ t, exec .qspiReadData s = .next t ∧ pulses t.trace = pulses s.trace + r.2.2.2.2)
        ∧ (∃ t, exec .qspiTransfer s = .next t
            ∧ pulses t.trace = pulses s.trace + if s.qmode = .standard then 8 else 0))
    ∧ (∀ s : State, ∃ t, exec .qspiSendDummy s = .next t ∧ pulses t.trace = pulses s.trace + s.opA.toNat)
    ∧ (∀ s : State, ∃ t, exec .qspiEnterQpi s = .next t ∧ pulses t.trace = pulses s.trace + 8)
    ∧ (∀ s : State, ∃ t, exec .qspiExitQpi s = .next t ∧ pulses t.trace = pulses s.trace + 2)
    ∧ (∀ i ∈ [Instr.qspiInit, .qspiCsLow, .qspiCsHigh, .qspiSetMode, .qspiGetMode],
        ∀ s : State, ∃ t, exec i s = .next t ∧ pulses t.trace = pulses s.trace)

/-- The source's "QSPI mode fidelity" (41_qspi.md, section 6): in each mode, a `readData` to which the environment presents
the levels that a `writeData` drove returns the byte written, with the pulses of the width, as many as the write. -/
def Obligations.WriteReadRoundTrip : Prop :=
  ∀ s : State, ∃ (t : State) (e : List Event), exec .qspiWriteData s = .next t ∧ t.trace = s.trace ++ e
    ∧ pulses e = 8 / (dataw s.qmode).lanes
    ∧ ∀ (u : State) (more : List Level), u.qmode = s.qmode → u.answers = e.flatMap Event.drivenLevels ++ more →
      ∃ (v : State) (d : List Event), exec .qspiReadData u = .next v ∧ v.res = s.opA &&& 0xFF#32 ∧ v.answers = more
        ∧ v.trace = u.trace ++ d ∧ pulses d = 8 / (dataw s.qmode).lanes

/-- 41_qspi.md R165: a buffer is moved byte by byte, first byte first, with nothing on the wire between the bytes; the mode
is read afresh for each byte. -/
def Obligations.BuffersAreTheirBytes : Prop :=
  (∀ (m : List Byte) (s : State) (rest : List Input), s.inbox = qspiWriteBufScript m ++ rest →
      ∃ t, steps m.length s = .next t ∧ t.trace = s.trace ++ m.flatMap (wireOut (dataw s.qmode))
        ∧ t.inbox = rest ∧ t.qmode = s.qmode ∧ t.qcs = s.qcs ∧ SameEnvironment s t)
    ∧ (∀ (n : Nat) (s : State) (rest : List Input), s.inbox = qspiReadBufScript n ++ rest →
      ∃ t, steps n s = .next t ∧ t.trace = s.trace ++ (bytesAt n s).flatMap (wireIn (dataw s.qmode))
        ∧ t.inbox = rest ∧ t.qmode = s.qmode ∧ t.qcs = s.qcs
        ∧ ∀ b, (bytesAt n s).getLast? = some b → t.res = b.setWidth 32)
    ∧ (∀ (b c : Byte) (m : Mode) (s : State) (rest : List Input),
      s.inbox = [request .qspiWriteData (b.setWidth 32) 0, request .qspiSetMode (m.code.setWidth 32) 0,
        request .qspiWriteData (c.setWidth 32) 0] ++ rest →
      ∃ t, steps 3 s = .next t ∧ t.trace = s.trace ++ wireOut (dataw s.qmode) b ++ wireOut (dataw m) c)

/-- `QSPI_TRANSFER_BUF` (30_encoding.md, section 5): in `STANDARD` the bytes go out first byte first, each full duplex with
the next eight levels, with nothing on the wire between them, the results in order (the last one in `RES`; any shorter
buffer is a case of its own, with the rest of the script in `rest`); in any other mode every byte is refused, with no
pulse. -/
def Obligations.TransferBuffersAreTheirBytes : Prop :=
  ∀ (m : List Byte) (s : State) (rest : List Input), s.inbox = qspiTransferBufScript m ++ rest →
    (s.qmode = .standard →
      ∃ t, steps m.length s = .next t
        ∧ t.trace = s.trace ++ (List.zipWith wireDuplex m (bytesAt m.length s)).flatten
        ∧ t.inbox = rest ∧ t.qmode = s.qmode ∧ t.qcs = s.qcs
        ∧ ∀ b, (bytesAt m.length s).getLast? = some b → t.res = b.setWidth 32 ∧ t.status = 0#1)
    ∧ (s.qmode ≠ .standard →
      ∃ t, steps m.length s = .next t ∧ t.trace = s.trace ∧ t.inbox = rest ∧ SameQspi s t ∧ SameEnvironment s t
        ∧ (m ≠ [] → t.res = 0#32 ∧ t.status = 1#1))

/-! ## The SWD engine -/

/-- 30_encoding.md R91, R92, R95 and 42_swd.md R188: the fields of every header, its parity, its order on the wire (bit 0
first), and the sixteen values; the last column of a row is the table's column `wire`, its first bit leftmost. -/
def Obligations.RequestHeaders : Prop :=
  (∀ (ap rd : Bool) (a : BitVec 2), ((header ap rd a).getLsbD 0 = true ∧ (header ap rd a).getLsbD 1 = ap
      ∧ (header ap rd a).getLsbD 2 = rd ∧ (header ap rd a).getLsbD 3 = a.getLsbD 0
      ∧ (header ap rd a).getLsbD 4 = a.getLsbD 1
      ∧ bitNat ((header ap rd a).getLsbD 5) = (bitNat ap + bitNat rd + bitNat (a.getLsbD 0) + bitNat (a.getLsbD 1)) % 2
      ∧ (header ap rd a).getLsbD 6 = false ∧ (header ap rd a).getLsbD 7 = true)
      ∧ popcount ((header ap rd a).extractLsb' 1 5) % 2 = 0)
    ∧ (∀ (h : Byte) (s : State), (sendHeader h s).trace = s.trace ++ [.h (h.getLsbD 0), .h (h.getLsbD 1),
        .h (h.getLsbD 2), .h (h.getLsbD 3), .h (h.getLsbD 4), .h (h.getLsbD 5), .h (h.getLsbD 6), .h (h.getLsbD 7)])
    ∧ (∀ r ∈ [(false, true, 0#2, 0xA5#8, 0b10100101#8),
        (false, true, 1#2, 0x8D#8, 0b10110001#8),
        (false, true, 2#2, 0x95#8, 0b10101001#8),
        (false, true, 3#2, 0xBD#8, 0b10111101#8),
        (false, false, 0#2, 0x81#8, 0b10000001#8),
        (false, false, 1#2, 0xA9#8, 0b10010101#8),
        (false, false, 2#2, 0xB1#8, 0b10001101#8),
        (false, false, 3#2, 0x99#8, 0b10011001#8),
        (true, true, 0#2, 0x87#8, 0b11100001#8),
        (true, true, 1#2, 0xAF#8, 0b11110101#8),
        (true, true, 2#2, 0xB7#8, 0b11101101#8),
        (true, true, 3#2, 0x9F#8, 0b11111001#8),
        (true, false, 0#2, 0xA3#8, 0b11000101#8),
        (true, false, 1#2, 0x8B#8, 0b11010001#8),
        (true, false, 2#2, 0x93#8, 0b11001001#8),
        (true, false, 3#2, 0xBB#8, 0b11011101#8)],
      header r.1 r.2.1 r.2.2.1 = r.2.2.2.1 ∧ ∀ k, k < 8 → r.2.2.2.1.getLsbD k = r.2.2.2.2.getLsbD (7 - k))

/-- 30_encoding.md R97: AP select in bits 31:24, bank in bits 7:4, every other bit 0. -/
def Obligations.SelectValueFields : Prop :=
  ∀ apsel addr : Byte,
    selectValue apsel addr = (apsel.setWidth 32 <<< 24) ||| (addr &&& 0xF0#8).setWidth 32
      ∧ (selectValue apsel addr).extractLsb' 24 8 = apsel
      ∧ (selectValue apsel addr).extractLsb' 4 4 = addr.extractLsb' 4 4
      ∧ (selectValue apsel addr).extractLsb' 8 16 = 0#16 ∧ (selectValue apsel addr).extractLsb' 0 4 = 0#4

/-- 42_swd.md R187: `parity32` is the count of ones modulo 2, and that is the exclusive or of all the bits. -/
def Obligations.ParityIsTheXorReduction : Prop :=
  (∀ w : Word, bitNat (parity32 w) = popcount w % 2 ∧ parity32 w = xorReduction w)
    ∧ parity32 0#32 = false ∧ parity32 0xFFFFFFFF#32 = false ∧ parity32 1#32 = true

/-- 42_swd.md R185: one cycle with the line released, nothing sampled; the line's level is kept. -/
def Obligations.TurnaroundEffect : Prop :=
  decodeOpcode 0x25#8 = .ok .swdTurnaround
    ∧ ∀ s : State, exec .swdTurnaround s = .next { s with
        swdio := { dir := .input, out := s.swdio.out }
        swclk := { dir := .output, out := false }
        trace := s.trace ++ [.swdZ]
        res := 0#32
        status := 0#1 }

/-- 42_swd.md R192, R193, R201: a Debug Port read in its three ends, for every state: not acknowledged (no data phase),
acknowledged with a wrong parity (all cycles run, no data delivered), and delivered. -/
def Obligations.ReadDpEffect : Prop :=
  decodeOpcode 0x21#8 = .ok .swdReadDp
    ∧ ∀ s : State,
      (ackAt s ≠ 1#3 → exec .swdReadDp s = .next
        { leftAborted (header false true (s.opA.extractLsb' 2 2)) s with res := 0#32, status := 1#1 })
      ∧ (ackAt s = 1#3 → parityAt s ≠ parity32 (wordAt s) → exec .swdReadDp s = .next
        { leftRead (header false true (s.opA.extractLsb' 2 2)) s with res := 0#32, status := 1#1 })
      ∧ (ackAt s = 1#3 → parityAt s = parity32 (wordAt s) → exec .swdReadDp s = .next
        { leftRead (header false true (s.opA.extractLsb' 2 2)) s with res := wordAt s, status := 0#1 })

/-- 42_swd.md R202: a Debug Port write, not acknowledged (nothing driven) and acknowledged. -/
def Obligations.WriteDpEffect : Prop :=
  decodeOpcode 0x22#8 = .ok .swdWriteDp
    ∧ ∀ s : State,
      (ackAt s ≠ 1#3 → exec .swdWriteDp s = .next
        { leftAborted (header false false (s.opA.extractLsb' 2 2)) s with res := 0#32, status := 1#1 })
      ∧ (ackAt s = 1#3 → exec .swdWriteDp s = .next
        { leftWritten (header false false (s.opA.extractLsb' 2 2)) s.opB s with res := 0#32, status := 0#1 })

/-- 42_swd.md R186, R200: `SWD_INIT`: two line resets of `SWD_RESET_CLOCKS` cycles, at least 50, with the switch sequence
between them, 8 idle cycles, the IDCODE read with the header `0xA5`, in its three ends; for every value of the two open
parameters (log 9). `connected` is the state before the IDCODE read. -/
def Obligations.SwdInitEffect : Prop :=
  decodeOpcode 0x20#8 = .ok .swdInit ∧ 50 ≤ Config.swdResetClocks
    ∧ ∀ s connected : State,
      connected = swdLeft 0 { dir := .output, out := false }
        (List.replicate Config.swdResetClocks (.h true) ++ hostBits Config.swdJtag2Swd 16
          ++ List.replicate Config.swdResetClocks (.h true) ++ List.replicate 8 (.h false)) s →
      (ackAt s ≠ 1#3 → exec .swdInit s = .next { leftAborted 0xA5#8 connected with res := 0#32, status := 1#1 })
      ∧ (ackAt s = 1#3 → parityAt s ≠ parity32 (wordAt s) → exec .swdInit s = .next
        { leftRead 0xA5#8 connected with res := 0#32, status := 1#1 })
      ∧ (ackAt s = 1#3 → parityAt s = parity32 (wordAt s) → exec .swdInit s = .next
        { leftRead 0xA5#8 connected with res := wordAt s, status := 0#1 })

/-- 42_swd.md R203: an Access Port read is a SELECT write, the posted read, and a read of RDBUFF whose word is returned;
the first transaction that fails ends it, the posted read's parity included. `s1` and `s2` are the states after the first
and the second transaction. -/
def Obligations.ReadApEffect : Prop :=
  decodeOpcode 0x23#8 = .ok .swdReadAp
    ∧ ∀ s s1 s2 : State,
      s1 = leftWritten 0xB1#8 (selectValue (s.opA.extractLsb' 8 8) (s.opA.extractLsb' 0 8)) s →
      s2 = leftRead (header true true (s.opA.extractLsb' 2 2)) s1 →
      (ackAt s ≠ 1#3 → exec .swdReadAp s = .next { leftAborted 0xB1#8 s with res := 0#32, status := 1#1 })
      ∧ (ackAt s = 1#3 → ackAt s1 ≠ 1#3 → exec .swdReadAp s = .next
        { leftAborted (header true true (s.opA.extractLsb' 2 2)) s1 with res := 0#32, status := 1#1 })
      ∧ (ackAt s = 1#3 → ackAt s1 = 1#3 → parityAt s1 ≠ parity32 (wordAt s1) → exec .swdReadAp s = .next
        { s2 with res := 0#32, status := 1#1 })
      ∧ (ackAt s = 1#3 → ackAt s1 = 1#3 → parityAt s1 = parity32 (wordAt s1) → ackAt s2 ≠ 1#3 →
        exec .swdReadAp s = .next { leftAborted 0xBD#8 s2 with res := 0#32, status := 1#1 })
      ∧ (ackAt s = 1#3 → ackAt s1 = 1#3 → parityAt s1 = parity32 (wordAt s1) → ackAt s2 = 1#3 →
        parityAt s2 ≠ parity32 (wordAt s2) →
        exec .swdReadAp s = .next { leftRead 0xBD#8 s2 with res := 0#32, status := 1#1 })
      ∧ (ackAt s = 1#3 → ackAt s1 = 1#3 → parityAt s1 = parity32 (wordAt s1) → ackAt s2 = 1#3 →
        parityAt s2 = parity32 (wordAt s2) →
        exec .swdReadAp s = .next { leftRead 0xBD#8 s2 with res := wordAt s2, status := 0#1 })

/-- 42_swd.md R204: an Access Port write is a SELECT write and the write of the register; no RDBUFF read follows. `s1` is
the state after the first transaction. -/
def Obligations.WriteApEffect : Prop :=
  decodeOpcode 0x24#8 = .ok .swdWriteAp
    ∧ ∀ s s1 : State,
      s1 = leftWritten 0xB1#8 (selectValue (s.opA.extractLsb' 8 8) (s.opA.extractLsb' 0 8)) s →
      (ackAt s ≠ 1#3 → exec .swdWriteAp s = .next { leftAborted 0xB1#8 s with res := 0#32, status := 1#1 })
      ∧ (ackAt s = 1#3 → ackAt s1 ≠ 1#3 → exec .swdWriteAp s = .next
        { leftAborted (header true false (s.opA.extractLsb' 2 2)) s1 with res := 0#32, status := 1#1 })
      ∧ (ackAt s = 1#3 → ackAt s1 = 1#3 → exec .swdWriteAp s = .next
        { leftWritten (header true false (s.opA.extractLsb' 2 2)) s.opB s1 with res := 0#32, status := 0#1 })

/-- The cycles of each operation (42_swd.md, section 5: the spec's own count). -/
def Obligations.CyclesPerOperation : Prop :=
  ∀ s : State,
    (∃ t, exec .swdTurnaround s = .next t ∧ cycles t.trace = cycles s.trace + 1)
    ∧ (∃ t, exec .swdReadDp s = .next t ∧ cycles t.trace = cycles s.trace + if ackAt s = 1#3 then 46 else 13)
    ∧ (∃ t, exec .swdWriteDp s = .next t ∧ cycles t.trace = cycles s.trace + if ackAt s = 1#3 then 46 else 13)
    ∧ (∃ t, exec .swdInit s = .next t ∧ cycles t.trace
        = cycles s.trace + (2 * Config.swdResetClocks + 16 + 8) + if ackAt s = 1#3 then 46 else 13)
    ∧ (∃ t n, exec .swdReadAp s = .next t ∧ cycles t.trace = cycles s.trace + n ∧ n ∈ [13, 59, 92, 105, 138]
        ∧ (t.status = 0#1 → n = 138))
    ∧ (∃ t n, exec .swdWriteAp s = .next t ∧ cycles t.trace = cycles s.trace + n
        ∧ (t.status = 0#1 → n = 92) ∧ (t.status = 1#1 → n = 13 ∨ n = 59))

/-- The transaction is the state machine of 42_swd.md, section 3 (the spec's own derivation): run cycle by cycle it ends
after exactly 13 cycles when the acknowledgement is not 1, else after exactly 46, and returns what `swd_xfer` returns. -/
def Obligations.TransactionIsThePhaseMachine : Prop :=
  ∀ (h : Byte) (wdata : Word) (s : State) (n : Nat), n = (if ackAt s = 1#3 then 46 else 13) →
    (PhaseRun.after h wdata n (.start s)).phase = .idle
      ∧ (PhaseRun.after h wdata n (.start s)).result = swdXfer h wdata s
      ∧ ∀ k, k < n → (PhaseRun.after h wdata k (.start s)).phase ≠ .idle

/-- The line between operations, and no session state (42_swd.md, section 5; 10_state.md, section 5): after a read, an
`init()` or a failure `SWDIO` is released, after a write it is driven at the parity of the word; `SWCLK` is driven low;
and what the two pins were before makes no difference to any register access. -/
def Obligations.LineBetweenOperations : Prop :=
  (∀ i ∈ [Instr.swdInit, .swdReadDp, .swdReadAp, .swdTurnaround], ∀ s : State,
      ∃ t, exec i s = .next t ∧ t.swdio.dir = .input ∧ t.swclk = { dir := .output, out := false })
    ∧ (∀ i ∈ [Instr.swdWriteDp, .swdWriteAp], ∀ s : State,
      ∃ t, exec i s = .next t ∧ t.swclk = { dir := .output, out := false }
        ∧ (t.status = 1#1 → t.swdio.dir = .input)
        ∧ (t.status = 0#1 → t.swdio = { dir := .output, out := parity32 s.opB }))
    ∧ (∀ i ∈ [Instr.swdInit, .swdReadDp, .swdWriteDp, .swdReadAp, .swdWriteAp], ∀ (s : State) (p q : Pin),
      exec i { s with swclk := p, swdio := q } = exec i s)

/-! ## The wire encodings (log 6: that they run as steps of their own is the model's choice) -/

/-- The header rows: each drives its eight bits in the order of the column `wire` of 30_encoding.md, section 3; the generic pattern
drives the parity of its other bits, whatever its own parity operand says (log 7). -/
def Obligations.HeaderRowsDriveTheirBits : Prop :=
  (∀ r ∈ [(Instr.swdHdrDpRead0, [true, false, true, false, false, true, false, true]),
        (.swdHdrDpRead4, [true, false, true, true, false, false, false, true]),
        (.swdHdrDpRead8, [true, false, true, false, true, false, false, true]),
        (.swdHdrDpReadC, [true, false, true, true, true, true, false, true]),
        (.swdHdrDpWrite0, [true, false, false, false, false, false, false, true]),
        (.swdHdrDpWrite4, [true, false, false, true, false, true, false, true]),
        (.swdHdrDpWrite8, [true, false, false, false, true, true, false, true]),
        (.swdHdrDpWriteC, [true, false, false, true, true, false, false, true]),
        (.swdHdrApRead0, [true, true, true, false, false, false, false, true]),
        (.swdHdrApRead4, [true, true, true, true, false, true, false, true]),
        (.swdHdrApRead8, [true, true, true, false, true, true, false, true]),
        (.swdHdrApReadC, [true, true, true, true, true, false, false, true]),
        (.swdHdrApWrite0, [true, true, false, false, false, true, false, true]),
        (.swdHdrApWrite4, [true, true, false, true, false, false, false, true]),
        (.swdHdrApWrite8, [true, true, false, false, true, false, false, true]),
        (.swdHdrApWriteC, [true, true, false, true, true, true, false, true])],
      ∀ s : State, exec r.1 s = .next (swdLeft 0 { dir := .output, out := true } (r.2.map .h) s))
    ∧ (∀ (ap rd a2 a3 p : Bool) (s : State), exec (.swdRequest ap rd a2 a3 p) s
      = .next (swdLeft 0 { dir := .output, out := true }
        ([true, ap, rd, a2, a3, headerParity ap rd a2 a3, false, true].map .h) s))

/-- The other rows. An acknowledgement's three bits come from the target, bit 0 first, and the environment's own levels are
not used; a bad one costs one turnaround and fails the operation. A command-byte row puts its byte on the lanes. A mode
row writes `QMODE`. -/
def Obligations.AcknowledgementCommandAndModeRows : Prop :=
  ∀ s : State,
    exec .swdAckOk s = .next (swdLeft 0 { dir := .input, out := s.swdio.out } [.t true, .t false, .t false] s)
    ∧ (∀ r ∈ [(Instr.swdAckBad0, [false, false, false]), (.swdAckBad2, [false, true, false]),
        (.swdAckBad3, [true, true, false]), (.swdAckBad4, [false, false, true]), (.swdAckBad5, [true, false, true]),
        (.swdAckBad6, [false, true, true]), (.swdAckBad7, [true, true, true])],
      exec r.1 s = .next
        { swdLeft 0 { dir := .input, out := s.swdio.out } (r.2.map .t ++ [.swdZ]) s with res := 0#32, status := 1#1 })
    ∧ exec .qpiEnterByte s = .next (qspiLeft 0 (lanesAfterOut .one 0x38#8 s.qio) (wire1 0x38#8) s)
    ∧ exec .qpiExitByte s = .next (qspiLeft 0 (lanesAfterOut .four 0xFF#8 s.qio) (wire4 0xFF#8) s)
    ∧ (∀ r ∈ [(Instr.qmodeStandard, Mode.standard), (.qmodeDualOut, .dualOut), (.qmodeDualIo, .dualIo),
        (.qmodeQuadOut, .quadOut), (.qmodeQuadIo, .quadIo), (.qmodeQpi, .qpi)],
      exec r.1 s = .next { s with qmode := r.2 })
end

