-- ==== Sys2Proof/Laws/Bits.lean ====
section
/-! SUPPORT. The loop, the bit helpers and the environment: one lemma for each thing they do. -/

namespace Sys2Proof.Machine

@[simp] theorem loop_zero {α : Type} (f : Nat → α → α) (a : α) : loop 0 f a = a := rfl

theorem loop_succ {α : Type} (n : Nat) (f : Nat → α → α) (a : α) : loop (n + 1) f a = f n (loop n f a) := rfl

/-- A loop that keeps a property keeps it to its end. -/
theorem loop_induction {α : Type} {P : Nat → α → Prop} {f : Nat → α → α} {a : α} (h0 : P 0 a)
    (hs : ∀ i x, P i x → P (i + 1) (f i x)) (n : Nat) : P n (loop n f a) := by
  induction n with
  | zero => exact h0
  | succ n ih => exact hs n _ ih

theorem getLsbD_putBit {n : Nat} (r : BitVec n) (i j : Nat) (v : Level) :
    (putBit r i v).getLsbD j = (r.getLsbD j || (decide (j < n) && decide (j = i) && v)) := by
  unfold putBit
  rw [BitVec.getLsbD_or, BitVec.getLsbD_shiftLeft, BitVec.getLsbD_setWidth, BitVec.getLsbD_ofBool]
  by_cases hj : j < n
  · by_cases hi : j < i
    · have : j ≠ i := by omega
      simp [hj, hi, this]
    · by_cases he : j = i
      · subst he
        have : 0 < n := by omega
        simp [hj, this]
      · have : j - i ≠ 0 := by omega
        simp [hj, hi, he, this]
  · have : r.getLsbD j = false := BitVec.getLsbD_of_ge r j (by omega)
    simp [hj]

theorem getLsbD_loop_putBit {n : Nat} (m : Nat) (f : Nat → Level) (j : Nat) :
    (loop m (fun i r => putBit r i (f i)) (0 : BitVec n)).getLsbD j
      = (decide (j < n) && decide (j < m) && f j) := by
  induction m with
  | zero => simp
  | succ m ih =>
    rw [loop_succ, getLsbD_putBit, ih]
    by_cases hn : j < n
    · by_cases hj : j = m
      · subst hj; simp [hn]
      · have : (j < m + 1) = (j < m) := by apply propext; omega
        simp [hj, this]
    · simp [hn]

/-- Bit j of `ofLevels n f` is `f j`. -/
@[simp] theorem getLsbD_ofLevels (n : Nat) (f : Nat → Level) (j : Nat) :
    (ofLevels n f).getLsbD j = (decide (j < n) && f j) := by
  unfold ofLevels
  rw [getLsbD_loop_putBit]
  by_cases h : j < n <;> simp [h]

/-- A value is the one of its own bits. -/
theorem ofLevels_getLsbD {n : Nat} (v : BitVec n) : ofLevels n (fun i => v.getLsbD i) = v := by
  apply BitVec.eq_of_getLsbD_eq
  intro i hi
  rw [getLsbD_ofLevels, decide_eq_true hi, Bool.true_and]

theorem ofLevels_congr {n : Nat} {f g : Nat → Level} (h : ∀ i, i < n → f i = g i) : ofLevels n f = ofLevels n g := by
  apply BitVec.eq_of_getLsbD_eq
  intro i hi
  rw [getLsbD_ofLevels, getLsbD_ofLevels, h i hi]

@[simp] theorem byteAt_bit (s : State) (i : Nat) : (byteAt s).getLsbD i = (decide (i < 8) && levelAt s (7 - i)) := by
  simp [byteAt]

@[simp] theorem byteAt_getElem (s : State) (i : Nat) (h : i < 8) : (byteAt s)[i] = levelAt s (7 - i) := by
  rw [← BitVec.getLsbD_eq_getElem, byteAt_bit, decide_eq_true h, Bool.true_and]

/-! ## The environment -/

@[simp] theorem levelAt_consume (s : State) (n k : Nat) : levelAt (consume n s) k = levelAt s (n + k) := by
  unfold levelAt consume
  simp only [List.getD_eq_getElem?_getD, List.getElem?_drop, List.length_drop]
  by_cases h : n + k < s.answers.length
  · simp [h]
  · have e : s.sampleNo + (n - s.answers.length) + (k - (s.answers.length - n))
        = s.sampleNo + (n + k - s.answers.length) := by omega
    rw [e]

theorem consume_consume (s : State) (m n : Nat) : consume n (consume m s) = consume (m + n) s := by
  unfold consume
  simp only [List.drop_drop, List.length_drop]
  congr 1
  omega

@[simp] theorem consume_zero (s : State) : consume 0 s = s := by
  simp [consume]

/-- What the environment presents depends on nothing but its own two fields. -/
theorem levelAt_congr {s t : State} (ha : s.answers = t.answers) (hn : s.sampleNo = t.sampleNo) (k : Nat) :
    levelAt s k = levelAt t k := by
  simp [levelAt, ha, hn]

theorem byteAt_congr {s t : State} (ha : s.answers = t.answers) (hn : s.sampleNo = t.sampleNo) : byteAt s = byteAt t :=
  ofLevels_congr fun i _ => levelAt_congr ha hn (7 - i)

/-- A level the environment has ready is the one sampled. -/
theorem levelAt_of_answers {s : State} {l : List Level} {rest : List Level} (h : s.answers = l ++ rest) (k : Nat)
    (hk : k < l.length) : levelAt s k = l[k] := by
  simp [levelAt, h, List.getElem?_append_left hk, hk]

@[simp] theorem samplePin_released (p : Pin) (s : State) (h : p.dir = .input) :
    samplePin p s = (levelAt s 0, consume 1 s) := by
  simp [samplePin, h, nextLevel]

end Sys2Proof.Machine
end

