-- ==== Sys2Proof/Laws/Crc.lean ====
section
/-! SUPPORT. The fold of the CRC over a sequence. -/

namespace Sys2Proof.Machine

@[simp] theorem crcFold_nil (acc : Word) : crcFold acc [] = acc := rfl

@[simp] theorem crcFold_cons (acc : Word) (b : Byte) (m : List Byte) : crcFold acc (b :: m) = crcFold (crcStep acc b) m := rfl

/-- A sequence in two parts is fed part by part (40_crc.md R117: "more bytes may be fed afterwards"). -/
theorem crcFold_append (acc : Word) (m n : List Byte) : crcFold acc (m ++ n) = crcFold (crcFold acc m) n := by
  simp [crcFold]

/-- The accumulator before the final exclusive or (40_crc.md R110). -/
theorem crcFold_of_crc32 (m : List Byte) : crcFold Config.crcInitValue m = crc32 m ^^^ Config.crcXorOut := by
  rw [crc32, BitVec.xor_assoc, BitVec.xor_self, BitVec.xor_zero]

end Sys2Proof.Machine
end

