-- ==== Sys2Proof/Laws/Decode.lean ====
section
/-! SUPPORT. The fields of a request record, and what the encoder does. -/

namespace Sys2Proof

/-- Where each bit of a record comes from (30_encoding.md R80). -/
theorem packRecord_bit (opc : Byte) (a b : Word) (j : Nat) :
    (packRecord opc a b).getLsbD j
      = if j < 32 then b.getLsbD j else if j - 32 < 32 then a.getLsbD (j - 32) else opc.getLsbD (j - 32 - 32) := by
  have e : (packRecord opc a b).getLsbD j = ((opc ++ a : BitVec (8 + 32)) ++ b : BitVec (8 + 32 + 32)).getLsbD j := rfl
  rw [e, BitVec.getLsbD_append, BitVec.getLsbD_append]

@[simp] theorem recordOpc_pack (opc : Byte) (a b : Word) : recordOpc (packRecord opc a b) = opc := by
  apply BitVec.eq_of_getLsbD_eq
  intro i hi
  have h3 : 64 + i - 32 - 32 = i := by omega
  rw [recordOpc, BitVec.getLsbD_extractLsb', decide_eq_true hi, Bool.true_and, packRecord_bit, if_neg (by omega),
    if_neg (by omega), h3]

@[simp] theorem recordOpA_pack (opc : Byte) (a b : Word) : recordOpA (packRecord opc a b) = a := by
  apply BitVec.eq_of_getLsbD_eq
  intro i hi
  have h3 : 32 + i - 32 = i := by omega
  rw [recordOpA, BitVec.getLsbD_extractLsb', decide_eq_true hi, Bool.true_and, packRecord_bit, if_neg (by omega),
    if_pos (by omega), h3]

@[simp] theorem recordOpB_pack (opc : Byte) (a b : Word) : recordOpB (packRecord opc a b) = b := by
  apply BitVec.eq_of_getLsbD_eq
  intro i hi
  rw [recordOpB, BitVec.getLsbD_extractLsb', decide_eq_true hi, Bool.true_and, packRecord_bit, if_pos (by omega),
    Nat.zero_add]

/-- A record is its three fields (30_encoding.md R80). -/
theorem pack_fields (r : Record) : packRecord (recordOpc r) (recordOpA r) (recordOpB r) = r := by
  apply BitVec.eq_of_getLsbD_eq
  intro i hi
  rw [packRecord_bit]
  by_cases h1 : i < 32
  · rw [if_pos h1, recordOpB, BitVec.getLsbD_extractLsb', decide_eq_true h1, Bool.true_and, Nat.zero_add]
  · rw [if_neg h1]
    by_cases h2 : i - 32 < 32
    · have e : 32 + (i - 32) = i := by omega
      rw [if_pos h2, recordOpA, BitVec.getLsbD_extractLsb', decide_eq_true h2, Bool.true_and, e]
    · have h3 : i - 32 - 32 < 8 := by omega
      have e : 64 + (i - 32 - 32) = i := by omega
      rw [if_neg h2, recordOpc, BitVec.getLsbD_extractLsb', decide_eq_true h3, Bool.true_and, e]

/-- The encoder on an operation of the port. -/
theorem encode_request {i : Instr} {c : Byte} (h : codeOf i = (none, c)) (a b : Word) :
    encode i a b = .request (packRecord c a b) := by
  simp [encode, h]

/-- The encoder on a wire encoding. -/
theorem encode_wire {i : Instr} {f : WireFormat} {c : Byte} (h : codeOf i = (some f, c)) (a b : Word) :
    encode i a b = .wire f c := by
  simp [encode, h]

end Sys2Proof
end

