-- ==== Sys2Proof/Laws/PerInstr.lean ====
section
/-! SUPPORT. Laws per instruction, about the instruction as syntax. -/

namespace Sys2Proof.Laws.Encoding

/-- An instruction is encoded on the operation port exactly when it has a unit, and then the high nibble of its operation
code is its unit's code (30_encoding.md R80, R82). -/
def Statement (i : Instr) : Prop :=
  i.unit?.isSome = (codeOf i).1.isNone ∧ ∀ u, i.unit? = some u → (codeOf i).2.extractLsb' 4 4 = u.code

/-- The statement of an instruction with a unit. -/
theorem of_unit {i : Instr} {u : BlockUnit} (hu : i.unit? = some u) (hc : (codeOf i).1.isNone = true)
    (hn : (codeOf i).2.extractLsb' 4 4 = u.code) : Statement i := by
  refine ⟨by rw [hu, hc]; rfl, fun v hv => ?_⟩
  rw [hu] at hv
  cases hv
  exact hn

/-- The statement of a wire encoding. -/
theorem of_wire {i : Instr} (hu : i.unit? = none) (hc : (codeOf i).1.isNone = false) : Statement i := by
  refine ⟨by rw [hu, hc]; rfl, fun v hv => ?_⟩
  rw [hu] at hv
  cases hv

theorem crcInit : Statement .crcInit := of_unit rfl rfl rfl
theorem crcUpdate : Statement .crcUpdate := of_unit rfl rfl rfl
theorem crcFinal : Statement .crcFinal := of_unit rfl rfl rfl
theorem qspiInit : Statement .qspiInit := of_unit rfl rfl rfl
theorem qspiCsLow : Statement .qspiCsLow := of_unit rfl rfl rfl
theorem qspiCsHigh : Statement .qspiCsHigh := of_unit rfl rfl rfl
theorem qspiSetMode : Statement .qspiSetMode := of_unit rfl rfl rfl
theorem qspiGetMode : Statement .qspiGetMode := of_unit rfl rfl rfl
theorem qspiSendCommand : Statement .qspiSendCommand := of_unit rfl rfl rfl
theorem qspiSendAddress : Statement .qspiSendAddress := of_unit rfl rfl rfl
theorem qspiSendDummy : Statement .qspiSendDummy := of_unit rfl rfl rfl
theorem qspiWriteData : Statement .qspiWriteData := of_unit rfl rfl rfl
theorem qspiReadData : Statement .qspiReadData := of_unit rfl rfl rfl
theorem qspiTransfer : Statement .qspiTransfer := of_unit rfl rfl rfl
theorem qspiEnterQpi : Statement .qspiEnterQpi := of_unit rfl rfl rfl
theorem qspiExitQpi : Statement .qspiExitQpi := of_unit rfl rfl rfl
theorem swdInit : Statement .swdInit := of_unit rfl rfl rfl
theorem swdReadDp : Statement .swdReadDp := of_unit rfl rfl rfl
theorem swdWriteDp : Statement .swdWriteDp := of_unit rfl rfl rfl
theorem swdReadAp : Statement .swdReadAp := of_unit rfl rfl rfl
theorem swdWriteAp : Statement .swdWriteAp := of_unit rfl rfl rfl
theorem swdTurnaround : Statement .swdTurnaround := of_unit rfl rfl rfl
theorem swdRequest (apndp rnw a2 a3 parity : Bool) : Statement (.swdRequest apndp rnw a2 a3 parity) := of_wire rfl rfl
theorem swdHdrDpRead0 : Statement .swdHdrDpRead0 := of_wire rfl rfl
theorem swdHdrDpRead4 : Statement .swdHdrDpRead4 := of_wire rfl rfl
theorem swdHdrDpRead8 : Statement .swdHdrDpRead8 := of_wire rfl rfl
theorem swdHdrDpReadC : Statement .swdHdrDpReadC := of_wire rfl rfl
theorem swdHdrDpWrite0 : Statement .swdHdrDpWrite0 := of_wire rfl rfl
theorem swdHdrDpWrite4 : Statement .swdHdrDpWrite4 := of_wire rfl rfl
theorem swdHdrDpWrite8 : Statement .swdHdrDpWrite8 := of_wire rfl rfl
theorem swdHdrDpWriteC : Statement .swdHdrDpWriteC := of_wire rfl rfl
theorem swdHdrApRead0 : Statement .swdHdrApRead0 := of_wire rfl rfl
theorem swdHdrApRead4 : Statement .swdHdrApRead4 := of_wire rfl rfl
theorem swdHdrApRead8 : Statement .swdHdrApRead8 := of_wire rfl rfl
theorem swdHdrApReadC : Statement .swdHdrApReadC := of_wire rfl rfl
theorem swdHdrApWrite0 : Statement .swdHdrApWrite0 := of_wire rfl rfl
theorem swdHdrApWrite4 : Statement .swdHdrApWrite4 := of_wire rfl rfl
theorem swdHdrApWrite8 : Statement .swdHdrApWrite8 := of_wire rfl rfl
theorem swdHdrApWriteC : Statement .swdHdrApWriteC := of_wire rfl rfl
theorem swdAckOk : Statement .swdAckOk := of_wire rfl rfl
theorem swdAckBad0 : Statement .swdAckBad0 := of_wire rfl rfl
theorem swdAckBad2 : Statement .swdAckBad2 := of_wire rfl rfl
theorem swdAckBad3 : Statement .swdAckBad3 := of_wire rfl rfl
theorem swdAckBad4 : Statement .swdAckBad4 := of_wire rfl rfl
theorem swdAckBad5 : Statement .swdAckBad5 := of_wire rfl rfl
theorem swdAckBad6 : Statement .swdAckBad6 := of_wire rfl rfl
theorem swdAckBad7 : Statement .swdAckBad7 := of_wire rfl rfl
theorem qpiEnterByte : Statement .qpiEnterByte := of_wire rfl rfl
theorem qpiExitByte : Statement .qpiExitByte := of_wire rfl rfl
theorem qmodeStandard : Statement .qmodeStandard := of_wire rfl rfl
theorem qmodeDualOut : Statement .qmodeDualOut := of_wire rfl rfl
theorem qmodeDualIo : Statement .qmodeDualIo := of_wire rfl rfl
theorem qmodeQuadOut : Statement .qmodeQuadOut := of_wire rfl rfl
theorem qmodeQuadIo : Statement .qmodeQuadIo := of_wire rfl rfl
theorem qmodeQpi : Statement .qmodeQpi := of_wire rfl rfl

end Sys2Proof.Laws.Encoding
end

