-- ==== Sys2Proof/Laws/State.lean ====
section
/-! SUPPORT. What each update of the state does to each field: true by rfl, for simp, so that no proof unfolds a record
update. -/

namespace Sys2Proof.Machine

@[simp] theorem returnValue_opA (v : Word) (s : State) : (returnValue v s).opA = s.opA := rfl
@[simp] theorem returnValue_opB (v : Word) (s : State) : (returnValue v s).opB = s.opB := rfl
@[simp] theorem returnValue_res (v : Word) (s : State) : (returnValue v s).res = v := rfl
@[simp] theorem returnValue_status (v : Word) (s : State) : (returnValue v s).status = 0#1 := rfl
@[simp] theorem returnValue_crcAcc (v : Word) (s : State) : (returnValue v s).crcAcc = s.crcAcc := rfl
@[simp] theorem returnValue_qmode (v : Word) (s : State) : (returnValue v s).qmode = s.qmode := rfl
@[simp] theorem returnValue_qcs (v : Word) (s : State) : (returnValue v s).qcs = s.qcs := rfl
@[simp] theorem returnValue_qclk (v : Word) (s : State) : (returnValue v s).qclk = s.qclk := rfl
@[simp] theorem returnValue_qio (v : Word) (s : State) : (returnValue v s).qio = s.qio := rfl
@[simp] theorem returnValue_swclk (v : Word) (s : State) : (returnValue v s).swclk = s.swclk := rfl
@[simp] theorem returnValue_swdio (v : Word) (s : State) : (returnValue v s).swdio = s.swdio := rfl
@[simp] theorem returnValue_inbox (v : Word) (s : State) : (returnValue v s).inbox = s.inbox := rfl
@[simp] theorem returnValue_answers (v : Word) (s : State) : (returnValue v s).answers = s.answers := rfl
@[simp] theorem returnValue_sampleNo (v : Word) (s : State) : (returnValue v s).sampleNo = s.sampleNo := rfl
@[simp] theorem returnValue_trace (v : Word) (s : State) : (returnValue v s).trace = s.trace := rfl

@[simp] theorem returnOk_opA (s : State) : (returnOk s).opA = s.opA := rfl
@[simp] theorem returnOk_opB (s : State) : (returnOk s).opB = s.opB := rfl
@[simp] theorem returnOk_res (s : State) : (returnOk s).res = 0#32 := rfl
@[simp] theorem returnOk_status (s : State) : (returnOk s).status = 0#1 := rfl
@[simp] theorem returnOk_crcAcc (s : State) : (returnOk s).crcAcc = s.crcAcc := rfl
@[simp] theorem returnOk_qmode (s : State) : (returnOk s).qmode = s.qmode := rfl
@[simp] theorem returnOk_qcs (s : State) : (returnOk s).qcs = s.qcs := rfl
@[simp] theorem returnOk_qclk (s : State) : (returnOk s).qclk = s.qclk := rfl
@[simp] theorem returnOk_qio (s : State) : (returnOk s).qio = s.qio := rfl
@[simp] theorem returnOk_swclk (s : State) : (returnOk s).swclk = s.swclk := rfl
@[simp] theorem returnOk_swdio (s : State) : (returnOk s).swdio = s.swdio := rfl
@[simp] theorem returnOk_inbox (s : State) : (returnOk s).inbox = s.inbox := rfl
@[simp] theorem returnOk_answers (s : State) : (returnOk s).answers = s.answers := rfl
@[simp] theorem returnOk_sampleNo (s : State) : (returnOk s).sampleNo = s.sampleNo := rfl
@[simp] theorem returnOk_trace (s : State) : (returnOk s).trace = s.trace := rfl

@[simp] theorem returnFail_opA (s : State) : (returnFail s).opA = s.opA := rfl
@[simp] theorem returnFail_opB (s : State) : (returnFail s).opB = s.opB := rfl
@[simp] theorem returnFail_res (s : State) : (returnFail s).res = 0#32 := rfl
@[simp] theorem returnFail_status (s : State) : (returnFail s).status = 1#1 := rfl
@[simp] theorem returnFail_crcAcc (s : State) : (returnFail s).crcAcc = s.crcAcc := rfl
@[simp] theorem returnFail_qmode (s : State) : (returnFail s).qmode = s.qmode := rfl
@[simp] theorem returnFail_qcs (s : State) : (returnFail s).qcs = s.qcs := rfl
@[simp] theorem returnFail_qclk (s : State) : (returnFail s).qclk = s.qclk := rfl
@[simp] theorem returnFail_qio (s : State) : (returnFail s).qio = s.qio := rfl
@[simp] theorem returnFail_swclk (s : State) : (returnFail s).swclk = s.swclk := rfl
@[simp] theorem returnFail_swdio (s : State) : (returnFail s).swdio = s.swdio := rfl
@[simp] theorem returnFail_inbox (s : State) : (returnFail s).inbox = s.inbox := rfl
@[simp] theorem returnFail_answers (s : State) : (returnFail s).answers = s.answers := rfl
@[simp] theorem returnFail_sampleNo (s : State) : (returnFail s).sampleNo = s.sampleNo := rfl
@[simp] theorem returnFail_trace (s : State) : (returnFail s).trace = s.trace := rfl

@[simp] theorem emit_opA (e : Event) (s : State) : (emit e s).opA = s.opA := rfl
@[simp] theorem emit_opB (e : Event) (s : State) : (emit e s).opB = s.opB := rfl
@[simp] theorem emit_res (e : Event) (s : State) : (emit e s).res = s.res := rfl
@[simp] theorem emit_status (e : Event) (s : State) : (emit e s).status = s.status := rfl
@[simp] theorem emit_crcAcc (e : Event) (s : State) : (emit e s).crcAcc = s.crcAcc := rfl
@[simp] theorem emit_qmode (e : Event) (s : State) : (emit e s).qmode = s.qmode := rfl
@[simp] theorem emit_qcs (e : Event) (s : State) : (emit e s).qcs = s.qcs := rfl
@[simp] theorem emit_qclk (e : Event) (s : State) : (emit e s).qclk = s.qclk := rfl
@[simp] theorem emit_qio (e : Event) (s : State) : (emit e s).qio = s.qio := rfl
@[simp] theorem emit_swclk (e : Event) (s : State) : (emit e s).swclk = s.swclk := rfl
@[simp] theorem emit_swdio (e : Event) (s : State) : (emit e s).swdio = s.swdio := rfl
@[simp] theorem emit_inbox (e : Event) (s : State) : (emit e s).inbox = s.inbox := rfl
@[simp] theorem emit_answers (e : Event) (s : State) : (emit e s).answers = s.answers := rfl
@[simp] theorem emit_sampleNo (e : Event) (s : State) : (emit e s).sampleNo = s.sampleNo := rfl
@[simp] theorem emit_trace (e : Event) (s : State) : (emit e s).trace = s.trace ++ [e] := rfl

@[simp] theorem consume_opA (n : Nat) (s : State) : (consume n s).opA = s.opA := rfl
@[simp] theorem consume_opB (n : Nat) (s : State) : (consume n s).opB = s.opB := rfl
@[simp] theorem consume_res (n : Nat) (s : State) : (consume n s).res = s.res := rfl
@[simp] theorem consume_status (n : Nat) (s : State) : (consume n s).status = s.status := rfl
@[simp] theorem consume_crcAcc (n : Nat) (s : State) : (consume n s).crcAcc = s.crcAcc := rfl
@[simp] theorem consume_qmode (n : Nat) (s : State) : (consume n s).qmode = s.qmode := rfl
@[simp] theorem consume_qcs (n : Nat) (s : State) : (consume n s).qcs = s.qcs := rfl
@[simp] theorem consume_qclk (n : Nat) (s : State) : (consume n s).qclk = s.qclk := rfl
@[simp] theorem consume_qio (n : Nat) (s : State) : (consume n s).qio = s.qio := rfl
@[simp] theorem consume_swclk (n : Nat) (s : State) : (consume n s).swclk = s.swclk := rfl
@[simp] theorem consume_swdio (n : Nat) (s : State) : (consume n s).swdio = s.swdio := rfl
@[simp] theorem consume_inbox (n : Nat) (s : State) : (consume n s).inbox = s.inbox := rfl
@[simp] theorem consume_answers (n : Nat) (s : State) : (consume n s).answers = s.answers.drop n := rfl
@[simp] theorem consume_sampleNo (n : Nat) (s : State) : (consume n s).sampleNo = s.sampleNo + (n - s.answers.length) := rfl
@[simp] theorem consume_trace (n : Nat) (s : State) : (consume n s).trace = s.trace := rfl

@[simp] theorem setMode_opA (m : Mode) (s : State) : (setMode m s).opA = s.opA := rfl
@[simp] theorem setMode_opB (m : Mode) (s : State) : (setMode m s).opB = s.opB := rfl
@[simp] theorem setMode_res (m : Mode) (s : State) : (setMode m s).res = s.res := rfl
@[simp] theorem setMode_status (m : Mode) (s : State) : (setMode m s).status = s.status := rfl
@[simp] theorem setMode_crcAcc (m : Mode) (s : State) : (setMode m s).crcAcc = s.crcAcc := rfl
@[simp] theorem setMode_qmode (m : Mode) (s : State) : (setMode m s).qmode = m := rfl
@[simp] theorem setMode_qcs (m : Mode) (s : State) : (setMode m s).qcs = s.qcs := rfl
@[simp] theorem setMode_qclk (m : Mode) (s : State) : (setMode m s).qclk = s.qclk := rfl
@[simp] theorem setMode_qio (m : Mode) (s : State) : (setMode m s).qio = s.qio := rfl
@[simp] theorem setMode_swclk (m : Mode) (s : State) : (setMode m s).swclk = s.swclk := rfl
@[simp] theorem setMode_swdio (m : Mode) (s : State) : (setMode m s).swdio = s.swdio := rfl
@[simp] theorem setMode_inbox (m : Mode) (s : State) : (setMode m s).inbox = s.inbox := rfl
@[simp] theorem setMode_answers (m : Mode) (s : State) : (setMode m s).answers = s.answers := rfl
@[simp] theorem setMode_sampleNo (m : Mode) (s : State) : (setMode m s).sampleNo = s.sampleNo := rfl
@[simp] theorem setMode_trace (m : Mode) (s : State) : (setMode m s).trace = s.trace := rfl

@[simp] theorem driveQcs_opA (v : Level) (s : State) : (driveQcs v s).opA = s.opA := rfl
@[simp] theorem driveQcs_opB (v : Level) (s : State) : (driveQcs v s).opB = s.opB := rfl
@[simp] theorem driveQcs_res (v : Level) (s : State) : (driveQcs v s).res = s.res := rfl
@[simp] theorem driveQcs_status (v : Level) (s : State) : (driveQcs v s).status = s.status := rfl
@[simp] theorem driveQcs_crcAcc (v : Level) (s : State) : (driveQcs v s).crcAcc = s.crcAcc := rfl
@[simp] theorem driveQcs_qmode (v : Level) (s : State) : (driveQcs v s).qmode = s.qmode := rfl
@[simp] theorem driveQcs_qcs (v : Level) (s : State) : (driveQcs v s).qcs = Pin.drive v := rfl
@[simp] theorem driveQcs_qclk (v : Level) (s : State) : (driveQcs v s).qclk = s.qclk := rfl
@[simp] theorem driveQcs_qio (v : Level) (s : State) : (driveQcs v s).qio = s.qio := rfl
@[simp] theorem driveQcs_swclk (v : Level) (s : State) : (driveQcs v s).swclk = s.swclk := rfl
@[simp] theorem driveQcs_swdio (v : Level) (s : State) : (driveQcs v s).swdio = s.swdio := rfl
@[simp] theorem driveQcs_inbox (v : Level) (s : State) : (driveQcs v s).inbox = s.inbox := rfl
@[simp] theorem driveQcs_answers (v : Level) (s : State) : (driveQcs v s).answers = s.answers := rfl
@[simp] theorem driveQcs_sampleNo (v : Level) (s : State) : (driveQcs v s).sampleNo = s.sampleNo := rfl
@[simp] theorem driveQcs_trace (v : Level) (s : State) : (driveQcs v s).trace = s.trace ++ [if v then .cs1 else .cs0] := rfl

@[simp] theorem qpulse_opA (s : State) : (qpulse s).opA = s.opA := rfl
@[simp] theorem qpulse_opB (s : State) : (qpulse s).opB = s.opB := rfl
@[simp] theorem qpulse_res (s : State) : (qpulse s).res = s.res := rfl
@[simp] theorem qpulse_status (s : State) : (qpulse s).status = s.status := rfl
@[simp] theorem qpulse_crcAcc (s : State) : (qpulse s).crcAcc = s.crcAcc := rfl
@[simp] theorem qpulse_qmode (s : State) : (qpulse s).qmode = s.qmode := rfl
@[simp] theorem qpulse_qcs (s : State) : (qpulse s).qcs = s.qcs := rfl
@[simp] theorem qpulse_qclk (s : State) : (qpulse s).qclk = Pin.drive false := rfl
@[simp] theorem qpulse_qio (s : State) : (qpulse s).qio = s.qio := rfl
@[simp] theorem qpulse_swclk (s : State) : (qpulse s).swclk = s.swclk := rfl
@[simp] theorem qpulse_swdio (s : State) : (qpulse s).swdio = s.swdio := rfl
@[simp] theorem qpulse_inbox (s : State) : (qpulse s).inbox = s.inbox := rfl
@[simp] theorem qpulse_answers (s : State) : (qpulse s).answers = s.answers := rfl
@[simp] theorem qpulse_sampleNo (s : State) : (qpulse s).sampleNo = s.sampleNo := rfl
@[simp] theorem qpulse_trace (s : State) : (qpulse s).trace = s.trace := rfl

@[simp] theorem releaseLanes_opA (s : State) : (releaseLanes s).opA = s.opA := rfl
@[simp] theorem releaseLanes_opB (s : State) : (releaseLanes s).opB = s.opB := rfl
@[simp] theorem releaseLanes_res (s : State) : (releaseLanes s).res = s.res := rfl
@[simp] theorem releaseLanes_status (s : State) : (releaseLanes s).status = s.status := rfl
@[simp] theorem releaseLanes_crcAcc (s : State) : (releaseLanes s).crcAcc = s.crcAcc := rfl
@[simp] theorem releaseLanes_qmode (s : State) : (releaseLanes s).qmode = s.qmode := rfl
@[simp] theorem releaseLanes_qcs (s : State) : (releaseLanes s).qcs = s.qcs := rfl
@[simp] theorem releaseLanes_qclk (s : State) : (releaseLanes s).qclk = s.qclk := rfl
@[simp] theorem releaseLanes_qio (s : State) : (releaseLanes s).qio = { io0 := s.qio.io0.release, io1 := s.qio.io1.release, io2 := s.qio.io2.release, io3 := s.qio.io3.release } := rfl
@[simp] theorem releaseLanes_swclk (s : State) : (releaseLanes s).swclk = s.swclk := rfl
@[simp] theorem releaseLanes_swdio (s : State) : (releaseLanes s).swdio = s.swdio := rfl
@[simp] theorem releaseLanes_inbox (s : State) : (releaseLanes s).inbox = s.inbox := rfl
@[simp] theorem releaseLanes_answers (s : State) : (releaseLanes s).answers = s.answers := rfl
@[simp] theorem releaseLanes_sampleNo (s : State) : (releaseLanes s).sampleNo = s.sampleNo := rfl
@[simp] theorem releaseLanes_trace (s : State) : (releaseLanes s).trace = s.trace := rfl

@[simp] theorem swcycle_opA (s : State) : (swcycle s).opA = s.opA := rfl
@[simp] theorem swcycle_opB (s : State) : (swcycle s).opB = s.opB := rfl
@[simp] theorem swcycle_res (s : State) : (swcycle s).res = s.res := rfl
@[simp] theorem swcycle_status (s : State) : (swcycle s).status = s.status := rfl
@[simp] theorem swcycle_crcAcc (s : State) : (swcycle s).crcAcc = s.crcAcc := rfl
@[simp] theorem swcycle_qmode (s : State) : (swcycle s).qmode = s.qmode := rfl
@[simp] theorem swcycle_qcs (s : State) : (swcycle s).qcs = s.qcs := rfl
@[simp] theorem swcycle_qclk (s : State) : (swcycle s).qclk = s.qclk := rfl
@[simp] theorem swcycle_qio (s : State) : (swcycle s).qio = s.qio := rfl
@[simp] theorem swcycle_swclk (s : State) : (swcycle s).swclk = Pin.drive false := rfl
@[simp] theorem swcycle_swdio (s : State) : (swcycle s).swdio = s.swdio := rfl
@[simp] theorem swcycle_inbox (s : State) : (swcycle s).inbox = s.inbox := rfl
@[simp] theorem swcycle_answers (s : State) : (swcycle s).answers = s.answers := rfl
@[simp] theorem swcycle_sampleNo (s : State) : (swcycle s).sampleNo = s.sampleNo := rfl
@[simp] theorem swcycle_trace (s : State) : (swcycle s).trace = s.trace := rfl

@[simp] theorem releaseSwdio_opA (s : State) : (releaseSwdio s).opA = s.opA := rfl
@[simp] theorem releaseSwdio_opB (s : State) : (releaseSwdio s).opB = s.opB := rfl
@[simp] theorem releaseSwdio_res (s : State) : (releaseSwdio s).res = s.res := rfl
@[simp] theorem releaseSwdio_status (s : State) : (releaseSwdio s).status = s.status := rfl
@[simp] theorem releaseSwdio_crcAcc (s : State) : (releaseSwdio s).crcAcc = s.crcAcc := rfl
@[simp] theorem releaseSwdio_qmode (s : State) : (releaseSwdio s).qmode = s.qmode := rfl
@[simp] theorem releaseSwdio_qcs (s : State) : (releaseSwdio s).qcs = s.qcs := rfl
@[simp] theorem releaseSwdio_qclk (s : State) : (releaseSwdio s).qclk = s.qclk := rfl
@[simp] theorem releaseSwdio_qio (s : State) : (releaseSwdio s).qio = s.qio := rfl
@[simp] theorem releaseSwdio_swclk (s : State) : (releaseSwdio s).swclk = s.swclk := rfl
@[simp] theorem releaseSwdio_swdio (s : State) : (releaseSwdio s).swdio = s.swdio.release := rfl
@[simp] theorem releaseSwdio_inbox (s : State) : (releaseSwdio s).inbox = s.inbox := rfl
@[simp] theorem releaseSwdio_answers (s : State) : (releaseSwdio s).answers = s.answers := rfl
@[simp] theorem releaseSwdio_sampleNo (s : State) : (releaseSwdio s).sampleNo = s.sampleNo := rfl
@[simp] theorem releaseSwdio_trace (s : State) : (releaseSwdio s).trace = s.trace := rfl

@[simp] theorem swWriteBit_opA (b : Level) (s : State) : (swWriteBit b s).opA = s.opA := rfl
@[simp] theorem swWriteBit_opB (b : Level) (s : State) : (swWriteBit b s).opB = s.opB := rfl
@[simp] theorem swWriteBit_res (b : Level) (s : State) : (swWriteBit b s).res = s.res := rfl
@[simp] theorem swWriteBit_status (b : Level) (s : State) : (swWriteBit b s).status = s.status := rfl
@[simp] theorem swWriteBit_crcAcc (b : Level) (s : State) : (swWriteBit b s).crcAcc = s.crcAcc := rfl
@[simp] theorem swWriteBit_qmode (b : Level) (s : State) : (swWriteBit b s).qmode = s.qmode := rfl
@[simp] theorem swWriteBit_qcs (b : Level) (s : State) : (swWriteBit b s).qcs = s.qcs := rfl
@[simp] theorem swWriteBit_qclk (b : Level) (s : State) : (swWriteBit b s).qclk = s.qclk := rfl
@[simp] theorem swWriteBit_qio (b : Level) (s : State) : (swWriteBit b s).qio = s.qio := rfl
@[simp] theorem swWriteBit_swclk (b : Level) (s : State) : (swWriteBit b s).swclk = Pin.drive false := rfl
@[simp] theorem swWriteBit_swdio (b : Level) (s : State) : (swWriteBit b s).swdio = Pin.drive b := rfl
@[simp] theorem swWriteBit_inbox (b : Level) (s : State) : (swWriteBit b s).inbox = s.inbox := rfl
@[simp] theorem swWriteBit_answers (b : Level) (s : State) : (swWriteBit b s).answers = s.answers := rfl
@[simp] theorem swWriteBit_sampleNo (b : Level) (s : State) : (swWriteBit b s).sampleNo = s.sampleNo := rfl
@[simp] theorem swWriteBit_trace (b : Level) (s : State) : (swWriteBit b s).trace = s.trace ++ [.h b] := rfl

@[simp] theorem turnAround_opA (s : State) : (turnAround s).opA = s.opA := rfl
@[simp] theorem turnAround_opB (s : State) : (turnAround s).opB = s.opB := rfl
@[simp] theorem turnAround_res (s : State) : (turnAround s).res = s.res := rfl
@[simp] theorem turnAround_status (s : State) : (turnAround s).status = s.status := rfl
@[simp] theorem turnAround_crcAcc (s : State) : (turnAround s).crcAcc = s.crcAcc := rfl
@[simp] theorem turnAround_qmode (s : State) : (turnAround s).qmode = s.qmode := rfl
@[simp] theorem turnAround_qcs (s : State) : (turnAround s).qcs = s.qcs := rfl
@[simp] theorem turnAround_qclk (s : State) : (turnAround s).qclk = s.qclk := rfl
@[simp] theorem turnAround_qio (s : State) : (turnAround s).qio = s.qio := rfl
@[simp] theorem turnAround_swclk (s : State) : (turnAround s).swclk = Pin.drive false := rfl
@[simp] theorem turnAround_swdio (s : State) : (turnAround s).swdio = s.swdio.release := rfl
@[simp] theorem turnAround_inbox (s : State) : (turnAround s).inbox = s.inbox := rfl
@[simp] theorem turnAround_answers (s : State) : (turnAround s).answers = s.answers := rfl
@[simp] theorem turnAround_sampleNo (s : State) : (turnAround s).sampleNo = s.sampleNo := rfl
@[simp] theorem turnAround_trace (s : State) : (turnAround s).trace = s.trace ++ [.swdZ] := rfl

@[simp] theorem resetEvent_opA (s : State) : (resetEvent s).opA = Block.reset.opA := rfl
@[simp] theorem resetEvent_opB (s : State) : (resetEvent s).opB = Block.reset.opB := rfl
@[simp] theorem resetEvent_res (s : State) : (resetEvent s).res = Block.reset.res := rfl
@[simp] theorem resetEvent_status (s : State) : (resetEvent s).status = Block.reset.status := rfl
@[simp] theorem resetEvent_crcAcc (s : State) : (resetEvent s).crcAcc = Block.reset.crcAcc := rfl
@[simp] theorem resetEvent_qmode (s : State) : (resetEvent s).qmode = Block.reset.qmode := rfl
@[simp] theorem resetEvent_qcs (s : State) : (resetEvent s).qcs = Block.reset.qcs := rfl
@[simp] theorem resetEvent_qclk (s : State) : (resetEvent s).qclk = Block.reset.qclk := rfl
@[simp] theorem resetEvent_qio (s : State) : (resetEvent s).qio = Block.reset.qio := rfl
@[simp] theorem resetEvent_swclk (s : State) : (resetEvent s).swclk = Block.reset.swclk := rfl
@[simp] theorem resetEvent_swdio (s : State) : (resetEvent s).swdio = Block.reset.swdio := rfl
@[simp] theorem resetEvent_inbox (s : State) : (resetEvent s).inbox = s.inbox := rfl
@[simp] theorem resetEvent_answers (s : State) : (resetEvent s).answers = s.answers := rfl
@[simp] theorem resetEvent_sampleNo (s : State) : (resetEvent s).sampleNo = s.sampleNo := rfl
@[simp] theorem resetEvent_trace (s : State) : (resetEvent s).trace = [] := rfl

@[simp] theorem driveLane_io0_opA (v : Level) (s : State) : (driveLane .io0 v s).opA = s.opA := rfl
@[simp] theorem driveLane_io0_opB (v : Level) (s : State) : (driveLane .io0 v s).opB = s.opB := rfl
@[simp] theorem driveLane_io0_res (v : Level) (s : State) : (driveLane .io0 v s).res = s.res := rfl
@[simp] theorem driveLane_io0_status (v : Level) (s : State) : (driveLane .io0 v s).status = s.status := rfl
@[simp] theorem driveLane_io0_crcAcc (v : Level) (s : State) : (driveLane .io0 v s).crcAcc = s.crcAcc := rfl
@[simp] theorem driveLane_io0_qmode (v : Level) (s : State) : (driveLane .io0 v s).qmode = s.qmode := rfl
@[simp] theorem driveLane_io0_qcs (v : Level) (s : State) : (driveLane .io0 v s).qcs = s.qcs := rfl
@[simp] theorem driveLane_io0_qclk (v : Level) (s : State) : (driveLane .io0 v s).qclk = s.qclk := rfl
@[simp] theorem driveLane_io0_qio (v : Level) (s : State) : (driveLane .io0 v s).qio = { s.qio with io0 := Pin.drive v } := rfl
@[simp] theorem driveLane_io0_swclk (v : Level) (s : State) : (driveLane .io0 v s).swclk = s.swclk := rfl
@[simp] theorem driveLane_io0_swdio (v : Level) (s : State) : (driveLane .io0 v s).swdio = s.swdio := rfl
@[simp] theorem driveLane_io0_inbox (v : Level) (s : State) : (driveLane .io0 v s).inbox = s.inbox := rfl
@[simp] theorem driveLane_io0_answers (v : Level) (s : State) : (driveLane .io0 v s).answers = s.answers := rfl
@[simp] theorem driveLane_io0_sampleNo (v : Level) (s : State) : (driveLane .io0 v s).sampleNo = s.sampleNo := rfl
@[simp] theorem driveLane_io0_trace (v : Level) (s : State) : (driveLane .io0 v s).trace = s.trace := rfl

@[simp] theorem driveLane_io1_opA (v : Level) (s : State) : (driveLane .io1 v s).opA = s.opA := rfl
@[simp] theorem driveLane_io1_opB (v : Level) (s : State) : (driveLane .io1 v s).opB = s.opB := rfl
@[simp] theorem driveLane_io1_res (v : Level) (s : State) : (driveLane .io1 v s).res = s.res := rfl
@[simp] theorem driveLane_io1_status (v : Level) (s : State) : (driveLane .io1 v s).status = s.status := rfl
@[simp] theorem driveLane_io1_crcAcc (v : Level) (s : State) : (driveLane .io1 v s).crcAcc = s.crcAcc := rfl
@[simp] theorem driveLane_io1_qmode (v : Level) (s : State) : (driveLane .io1 v s).qmode = s.qmode := rfl
@[simp] theorem driveLane_io1_qcs (v : Level) (s : State) : (driveLane .io1 v s).qcs = s.qcs := rfl
@[simp] theorem driveLane_io1_qclk (v : Level) (s : State) : (driveLane .io1 v s).qclk = s.qclk := rfl
@[simp] theorem driveLane_io1_qio (v : Level) (s : State) : (driveLane .io1 v s).qio = { s.qio with io1 := Pin.drive v } := rfl
@[simp] theorem driveLane_io1_swclk (v : Level) (s : State) : (driveLane .io1 v s).swclk = s.swclk := rfl
@[simp] theorem driveLane_io1_swdio (v : Level) (s : State) : (driveLane .io1 v s).swdio = s.swdio := rfl
@[simp] theorem driveLane_io1_inbox (v : Level) (s : State) : (driveLane .io1 v s).inbox = s.inbox := rfl
@[simp] theorem driveLane_io1_answers (v : Level) (s : State) : (driveLane .io1 v s).answers = s.answers := rfl
@[simp] theorem driveLane_io1_sampleNo (v : Level) (s : State) : (driveLane .io1 v s).sampleNo = s.sampleNo := rfl
@[simp] theorem driveLane_io1_trace (v : Level) (s : State) : (driveLane .io1 v s).trace = s.trace := rfl

@[simp] theorem driveLane_io2_opA (v : Level) (s : State) : (driveLane .io2 v s).opA = s.opA := rfl
@[simp] theorem driveLane_io2_opB (v : Level) (s : State) : (driveLane .io2 v s).opB = s.opB := rfl
@[simp] theorem driveLane_io2_res (v : Level) (s : State) : (driveLane .io2 v s).res = s.res := rfl
@[simp] theorem driveLane_io2_status (v : Level) (s : State) : (driveLane .io2 v s).status = s.status := rfl
@[simp] theorem driveLane_io2_crcAcc (v : Level) (s : State) : (driveLane .io2 v s).crcAcc = s.crcAcc := rfl
@[simp] theorem driveLane_io2_qmode (v : Level) (s : State) : (driveLane .io2 v s).qmode = s.qmode := rfl
@[simp] theorem driveLane_io2_qcs (v : Level) (s : State) : (driveLane .io2 v s).qcs = s.qcs := rfl
@[simp] theorem driveLane_io2_qclk (v : Level) (s : State) : (driveLane .io2 v s).qclk = s.qclk := rfl
@[simp] theorem driveLane_io2_qio (v : Level) (s : State) : (driveLane .io2 v s).qio = { s.qio with io2 := Pin.drive v } := rfl
@[simp] theorem driveLane_io2_swclk (v : Level) (s : State) : (driveLane .io2 v s).swclk = s.swclk := rfl
@[simp] theorem driveLane_io2_swdio (v : Level) (s : State) : (driveLane .io2 v s).swdio = s.swdio := rfl
@[simp] theorem driveLane_io2_inbox (v : Level) (s : State) : (driveLane .io2 v s).inbox = s.inbox := rfl
@[simp] theorem driveLane_io2_answers (v : Level) (s : State) : (driveLane .io2 v s).answers = s.answers := rfl
@[simp] theorem driveLane_io2_sampleNo (v : Level) (s : State) : (driveLane .io2 v s).sampleNo = s.sampleNo := rfl
@[simp] theorem driveLane_io2_trace (v : Level) (s : State) : (driveLane .io2 v s).trace = s.trace := rfl

@[simp] theorem driveLane_io3_opA (v : Level) (s : State) : (driveLane .io3 v s).opA = s.opA := rfl
@[simp] theorem driveLane_io3_opB (v : Level) (s : State) : (driveLane .io3 v s).opB = s.opB := rfl
@[simp] theorem driveLane_io3_res (v : Level) (s : State) : (driveLane .io3 v s).res = s.res := rfl
@[simp] theorem driveLane_io3_status (v : Level) (s : State) : (driveLane .io3 v s).status = s.status := rfl
@[simp] theorem driveLane_io3_crcAcc (v : Level) (s : State) : (driveLane .io3 v s).crcAcc = s.crcAcc := rfl
@[simp] theorem driveLane_io3_qmode (v : Level) (s : State) : (driveLane .io3 v s).qmode = s.qmode := rfl
@[simp] theorem driveLane_io3_qcs (v : Level) (s : State) : (driveLane .io3 v s).qcs = s.qcs := rfl
@[simp] theorem driveLane_io3_qclk (v : Level) (s : State) : (driveLane .io3 v s).qclk = s.qclk := rfl
@[simp] theorem driveLane_io3_qio (v : Level) (s : State) : (driveLane .io3 v s).qio = { s.qio with io3 := Pin.drive v } := rfl
@[simp] theorem driveLane_io3_swclk (v : Level) (s : State) : (driveLane .io3 v s).swclk = s.swclk := rfl
@[simp] theorem driveLane_io3_swdio (v : Level) (s : State) : (driveLane .io3 v s).swdio = s.swdio := rfl
@[simp] theorem driveLane_io3_inbox (v : Level) (s : State) : (driveLane .io3 v s).inbox = s.inbox := rfl
@[simp] theorem driveLane_io3_answers (v : Level) (s : State) : (driveLane .io3 v s).answers = s.answers := rfl
@[simp] theorem driveLane_io3_sampleNo (v : Level) (s : State) : (driveLane .io3 v s).sampleNo = s.sampleNo := rfl
@[simp] theorem driveLane_io3_trace (v : Level) (s : State) : (driveLane .io3 v s).trace = s.trace := rfl

@[simp] theorem releaseLane_io0_opA (s : State) : (releaseLane .io0 s).opA = s.opA := rfl
@[simp] theorem releaseLane_io0_opB (s : State) : (releaseLane .io0 s).opB = s.opB := rfl
@[simp] theorem releaseLane_io0_res (s : State) : (releaseLane .io0 s).res = s.res := rfl
@[simp] theorem releaseLane_io0_status (s : State) : (releaseLane .io0 s).status = s.status := rfl
@[simp] theorem releaseLane_io0_crcAcc (s : State) : (releaseLane .io0 s).crcAcc = s.crcAcc := rfl
@[simp] theorem releaseLane_io0_qmode (s : State) : (releaseLane .io0 s).qmode = s.qmode := rfl
@[simp] theorem releaseLane_io0_qcs (s : State) : (releaseLane .io0 s).qcs = s.qcs := rfl
@[simp] theorem releaseLane_io0_qclk (s : State) : (releaseLane .io0 s).qclk = s.qclk := rfl
@[simp] theorem releaseLane_io0_qio (s : State) : (releaseLane .io0 s).qio = { s.qio with io0 := s.qio.io0.release } := rfl
@[simp] theorem releaseLane_io0_swclk (s : State) : (releaseLane .io0 s).swclk = s.swclk := rfl
@[simp] theorem releaseLane_io0_swdio (s : State) : (releaseLane .io0 s).swdio = s.swdio := rfl
@[simp] theorem releaseLane_io0_inbox (s : State) : (releaseLane .io0 s).inbox = s.inbox := rfl
@[simp] theorem releaseLane_io0_answers (s : State) : (releaseLane .io0 s).answers = s.answers := rfl
@[simp] theorem releaseLane_io0_sampleNo (s : State) : (releaseLane .io0 s).sampleNo = s.sampleNo := rfl
@[simp] theorem releaseLane_io0_trace (s : State) : (releaseLane .io0 s).trace = s.trace := rfl

@[simp] theorem releaseLane_io1_opA (s : State) : (releaseLane .io1 s).opA = s.opA := rfl
@[simp] theorem releaseLane_io1_opB (s : State) : (releaseLane .io1 s).opB = s.opB := rfl
@[simp] theorem releaseLane_io1_res (s : State) : (releaseLane .io1 s).res = s.res := rfl
@[simp] theorem releaseLane_io1_status (s : State) : (releaseLane .io1 s).status = s.status := rfl
@[simp] theorem releaseLane_io1_crcAcc (s : State) : (releaseLane .io1 s).crcAcc = s.crcAcc := rfl
@[simp] theorem releaseLane_io1_qmode (s : State) : (releaseLane .io1 s).qmode = s.qmode := rfl
@[simp] theorem releaseLane_io1_qcs (s : State) : (releaseLane .io1 s).qcs = s.qcs := rfl
@[simp] theorem releaseLane_io1_qclk (s : State) : (releaseLane .io1 s).qclk = s.qclk := rfl
@[simp] theorem releaseLane_io1_qio (s : State) : (releaseLane .io1 s).qio = { s.qio with io1 := s.qio.io1.release } := rfl
@[simp] theorem releaseLane_io1_swclk (s : State) : (releaseLane .io1 s).swclk = s.swclk := rfl
@[simp] theorem releaseLane_io1_swdio (s : State) : (releaseLane .io1 s).swdio = s.swdio := rfl
@[simp] theorem releaseLane_io1_inbox (s : State) : (releaseLane .io1 s).inbox = s.inbox := rfl
@[simp] theorem releaseLane_io1_answers (s : State) : (releaseLane .io1 s).answers = s.answers := rfl
@[simp] theorem releaseLane_io1_sampleNo (s : State) : (releaseLane .io1 s).sampleNo = s.sampleNo := rfl
@[simp] theorem releaseLane_io1_trace (s : State) : (releaseLane .io1 s).trace = s.trace := rfl

end Sys2Proof.Machine
end

