-- ==== Sys2Proof/Laws/Qspi.lean ====
section
/-! SUPPORT. What each shift sequence of the QSPI engine does, whole: the pins it leaves, the trace it adds, the levels
it takes. -/

namespace Sys2Proof.Machine

/-! ## The state a phase leaves -/

@[simp] theorem qspiLeft_qio (n : Nat) (l : Lanes) (e : List Event) (s : State) : (qspiLeft n l e s).qio = l := rfl
@[simp] theorem qspiLeft_qclk (n : Nat) (l : Lanes) (e : List Event) (s : State) :
    (qspiLeft n l e s).qclk = Pin.drive false := rfl
@[simp] theorem qspiLeft_trace (n : Nat) (l : Lanes) (e : List Event) (s : State) :
    (qspiLeft n l e s).trace = s.trace ++ e := rfl

@[simp] theorem levelAt_qspiLeft (n k : Nat) (l : Lanes) (e : List Event) (s : State) :
    levelAt (qspiLeft n l e s) k = levelAt s (n + k) := levelAt_consume s n k

/-- Two phases in a row. -/
@[simp] theorem qspiLeft_qspiLeft (m n : Nat) (k l : Lanes) (d e : List Event) (s : State) :
    qspiLeft n l e (qspiLeft m k d s) = qspiLeft (m + n) l (d ++ e) s := by
  ext1 <;> simp [qspiLeft]
  omega

/-- The state a phase leaves does not depend on the lanes it starts from. -/
theorem qspiLeft_from (n : Nat) (l q : Lanes) (e : List Event) (s : State) :
    qspiLeft n l e { s with qio := q } = qspiLeft n l e s := rfl

theorem qpulse_eq (s : State) : qpulse s = { s with qclk := Pin.drive false } := rfl

theorem releaseLanes_eq (s : State) : releaseLanes s = { s with qio := lanesAfterIn .four s.qio } := rfl

/-! ## Outbound bytes -/

/-- `tx1` (41_qspi.md R132): eight pulses, `QIO[0]` left driven at bit 0. -/
theorem tx1_eq (b : Byte) (s : State) :
    tx1 b s = qspiLeft 0 (lanesAfterOut .one b s.qio) (wireOut .one b) s := by
  ext1 <;> simp [qspiLeft, tx1, loop, lanesAfterOut, wireOut, wire1]

/-- `tx2` (41_qspi.md R133): four pulses, `QIO[1:0]` left driven at bits 1 and 0. -/
theorem tx2_eq (b : Byte) (s : State) :
    tx2 b s = qspiLeft 0 (lanesAfterOut .two b s.qio) (wireOut .two b) s := by
  ext1 <;> simp [qspiLeft, tx2, loop, lanesAfterOut, wireOut, wire2]

/-- `tx4` (41_qspi.md R134): two pulses, the four lanes left driven at the last nibble. -/
theorem tx4_eq (b : Byte) (s : State) :
    tx4 b s = qspiLeft 0 (lanesAfterOut .four b s.qio) (wireOut .four b) s := by
  ext1 <;> simp [qspiLeft, tx4, loop, lanesAfterOut, wireOut, wire4, driveNibble, nibbleOf]

/-- `txw` (41_qspi.md R139). -/
theorem txw_eq (w : Width) (b : Byte) (s : State) :
    txw w b s = qspiLeft 0 (lanesAfterOut w b s.qio) (wireOut w b) s := by
  cases w
  · exact tx1_eq b s
  · exact tx2_eq b s
  · exact tx4_eq b s

/-- The lanes after several bytes are those after the last one. -/
@[simp] theorem lanesAfterOut_twice (w : Width) (a b : Byte) (q : Lanes) :
    lanesAfterOut w b (lanesAfterOut w a q) = lanesAfterOut w b q := by
  cases w <;> rfl

/-- Three bytes of an address (30_encoding.md R90). -/
theorem txAddress_three (w : Width) (addr : Word) (s : State) :
    txAddress w 3 addr s = qspiLeft 0 (lanesAfterOut w (addr.extractLsb' 0 8) s.qio)
      ((addressBytes 3 addr).flatMap (wireOut w)) s := by
  simp [txAddress, loop, txw_eq, addressBytes, byteOf]

/-- Four bytes of an address (30_encoding.md R90). -/
theorem txAddress_four (w : Width) (addr : Word) (s : State) :
    txAddress w 4 addr s = qspiLeft 0 (lanesAfterOut w (addr.extractLsb' 0 8) s.qio)
      ((addressBytes 4 addr).flatMap (wireOut w)) s := by
  simp [txAddress, loop, txw_eq, addressBytes, byteOf]

/-- n dummy pulses (41_qspi.md R152); with none, the clock is not touched. -/
theorem dummyPulses_eq (n : Nat) (s : State) :
    dummyPulses n s = { s with
      qclk := if n = 0 then s.qclk else Pin.drive false
      trace := s.trace ++ List.replicate n .z } := by
  induction n with
  | zero => simp [dummyPulses]
  | succ n ih =>
    have h : dummyPulses (n + 1) s = emit .z (qpulse (dummyPulses n s)) := rfl
    rw [h, ih, List.replicate_succ']
    ext1 <;> simp

/-! ## Inbound bytes -/

/-- A released lane samples the next level of the environment (20_memory.md R56). -/
theorem sampleLane_released (k : Lane) (s : State) (h : (lane k s).dir = .input) :
    sampleLane k s = (levelAt s 0, consume 1 s) := by
  simp [sampleLane, h]

/-- A pulse that samples: the lanes are sampled with the clock driven high (41_qspi.md R131). -/
theorem qpulseSample_eq {α : Type} (f : State → α × State) (s : State) :
    qpulseSample f s = ((f { s with qclk := Pin.drive true }).1,
      qclkEdge false (f { s with qclk := Pin.drive true }).2) := rfl

theorem levelAt_qclk (s : State) (p : Pin) (k : Nat) : levelAt { s with qclk := p } k = levelAt s k := rfl

/-- One sampling pulse on the released `QIO[1]`. -/
theorem pulse1_eq (s : State) (h : s.qio.io1.dir = .input) :
    qpulseSample (sampleLane .io1) s = (levelAt s 0, qspiLeft 1 s.qio [] s) := by
  rw [qpulseSample_eq, sampleLane_released _ _ (by exact h)]
  refine Prod.ext rfl ?_
  ext1 <;> simp [qspiLeft, consume, qclkEdge, delay, Pin.drive]

/-- One sampling pulse on the released `QIO[1:0]`. -/
theorem pulse2_eq (s : State) (h1 : s.qio.io1.dir = .input) (h0 : s.qio.io0.dir = .input) :
    qpulseSample samplePair s = ((levelAt s 0, levelAt s 1), qspiLeft 2 s.qio [] s) := by
  have e : samplePair { s with qclk := Pin.drive true }
      = ((levelAt s 0, levelAt s 1), consume 2 { s with qclk := Pin.drive true }) := by
    unfold samplePair
    rw [sampleLane_released _ _ (by exact h1)]
    dsimp only
    rw [sampleLane_released _ _ (by exact h0)]
    rw [levelAt_consume, consume_consume]
    rfl
  rw [qpulseSample_eq, e]
  refine Prod.ext rfl ?_
  ext1 <;> simp [qspiLeft, consume, qclkEdge, delay, Pin.drive]

/-- One sampling pulse on the four released lanes. -/
theorem pulse4_eq (s : State) (h3 : s.qio.io3.dir = .input) (h2 : s.qio.io2.dir = .input)
    (h1 : s.qio.io1.dir = .input) (h0 : s.qio.io0.dir = .input) :
    qpulseSample sampleNibble s
      = (nibbleOfLevels (levelAt s 0) (levelAt s 1) (levelAt s 2) (levelAt s 3), qspiLeft 4 s.qio [] s) := by
  have e : sampleNibble { s with qclk := Pin.drive true }
      = (nibbleOfLevels (levelAt s 0) (levelAt s 1) (levelAt s 2) (levelAt s 3),
          consume 4 { s with qclk := Pin.drive true }) := by
    unfold sampleNibble
    rw [sampleLane_released _ _ (by exact h3)]
    dsimp only
    rw [sampleLane_released _ _ (by exact h2)]
    dsimp only
    rw [sampleLane_released _ _ (by exact h1)]
    dsimp only
    rw [sampleLane_released _ _ (by exact h0)]
    simp only [levelAt_consume, consume_consume]
    rfl
  rw [qpulseSample_eq, e]
  refine Prod.ext rfl ?_
  ext1 <;> simp [qspiLeft, consume, qclkEdge, delay, Pin.drive]

@[simp] theorem emit_qspiLeft (x : Event) (n : Nat) (l : Lanes) (e : List Event) (s : State) :
    emit x (qspiLeft n l e s) = qspiLeft n l (e ++ [x]) s := by
  ext1 <;> simp [qspiLeft]

/-- The byte the next eight levels make, as the loops assemble it. -/
theorem byteAt_eq_putBits (s : State) :
    byteAt s = putBit (putBit (putBit (putBit (putBit (putBit (putBit (putBit 0#8 7 (levelAt s 0)) 6 (levelAt s 1)) 5
      (levelAt s 2)) 4 (levelAt s 3)) 3 (levelAt s 4)) 2 (levelAt s 5)) 1 (levelAt s 6)) 0 (levelAt s 7) := by
  apply BitVec.eq_of_getLsbD_eq
  intro i hi
  rw [byteAt_bit]
  simp only [getLsbD_putBit]
  have : i = 0 ∨ i = 1 ∨ i = 2 ∨ i = 3 ∨ i = 4 ∨ i = 5 ∨ i = 6 ∨ i = 7 := by omega
  rcases this with h | h | h | h | h | h | h | h <;> subst h <;> simp

/-- The loop of `rx1` from a state whose `QIO[1]` is released. -/
theorem rx1_loop (u : State) (h : u.qio.io1.dir = .input) :
    loop 8 (fun j (rs : Byte × State) =>
        let (v, s) := qpulseSample (sampleLane .io1) rs.2
        (putBit rs.1 (7 - j) v, emit (.r1 v) s)) (0, u)
      = (byteAt u, qspiLeft 8 u.qio (wireIn .one (byteAt u)) u) := by
  simp [loop, pulse1_eq, h, wireIn, (byteAt_eq_putBits u).symm]

/-- `rx1` (41_qspi.md R135): eight pulses, the byte of the next eight levels, `QIO[1]` left released. -/
theorem rx1_eq (s : State) :
    rx1 s = (byteAt s, qspiLeft 8 (lanesAfterIn .one s.qio) (wireIn .one (byteAt s)) s) := by
  rw [← byteAt_congr (s := { s with qio := lanesAfterIn .one s.qio }) (t := s) rfl rfl,
    ← qspiLeft_from _ _ (lanesAfterIn .one s.qio)]
  exact rx1_loop { s with qio := lanesAfterIn .one s.qio } rfl

/-- The loop of `rx2` from a state whose `QIO[1:0]` are released. -/
theorem rx2_loop (u : State) (h1 : u.qio.io1.dir = .input) (h0 : u.qio.io0.dir = .input) :
    loop 4 (fun j (rs : Byte × State) =>
        let (xy, s) := qpulseSample samplePair rs.2
        (putBit (putBit rs.1 (7 - 2 * j) xy.1) (6 - 2 * j) xy.2, emit (.r2 xy.1 xy.2) s)) (0, u)
      = (byteAt u, qspiLeft 8 u.qio (wireIn .two (byteAt u)) u) := by
  simp [loop, pulse2_eq, h1, h0, wireIn, (byteAt_eq_putBits u).symm]

/-- `rx2` (41_qspi.md R136): four pulses, the byte of the next eight levels, `QIO[1:0]` left released. -/
theorem rx2_eq (s : State) :
    rx2 s = (byteAt s, qspiLeft 8 (lanesAfterIn .two s.qio) (wireIn .two (byteAt s)) s) := by
  rw [← byteAt_congr (s := { s with qio := lanesAfterIn .two s.qio }) (t := s) rfl rfl,
    ← qspiLeft_from _ _ (lanesAfterIn .two s.qio)]
  exact rx2_loop { s with qio := lanesAfterIn .two s.qio } rfl rfl

/-- Bits of a nibble built from four levels. -/
theorem getLsbD_nibbleOfLevels (b3 b2 b1 b0 : Level) (i : Nat) :
    (nibbleOfLevels b3 b2 b1 b0).getLsbD i
      = (decide (i = 3) && b3 || decide (i = 2) && b2 || decide (i = 1) && b1 || decide (i = 0) && b0) := by
  simp only [nibbleOfLevels, getLsbD_putBit]
  by_cases h : i < 4
  · have : i = 0 ∨ i = 1 ∨ i = 2 ∨ i = 3 := by omega
    rcases this with h | h | h | h <;> subst h <;> simp
  · have h3 : i ≠ 3 := by omega
    have h2 : i ≠ 2 := by omega
    have h1 : i ≠ 1 := by omega
    have h0 : i ≠ 0 := by omega
    simp [h3, h2, h1, h0]

/-- The high nibble of the byte of the next eight levels. -/
theorem byteAt_high (s : State) :
    (byteAt s).extractLsb' 4 4 = nibbleOfLevels (levelAt s 0) (levelAt s 1) (levelAt s 2) (levelAt s 3) := by
  apply BitVec.eq_of_getLsbD_eq
  intro i hi
  rw [getLsbD_nibbleOfLevels, BitVec.getLsbD_extractLsb', byteAt_bit]
  have : i = 0 ∨ i = 1 ∨ i = 2 ∨ i = 3 := by omega
  rcases this with h | h | h | h <;> subst h <;> simp

/-- The low nibble of the byte of the next eight levels. -/
theorem byteAt_low (s : State) :
    (byteAt s).extractLsb' 0 4 = nibbleOfLevels (levelAt s 4) (levelAt s 5) (levelAt s 6) (levelAt s 7) := by
  apply BitVec.eq_of_getLsbD_eq
  intro i hi
  rw [getLsbD_nibbleOfLevels, BitVec.getLsbD_extractLsb', byteAt_bit]
  have : i = 0 ∨ i = 1 ∨ i = 2 ∨ i = 3 := by omega
  rcases this with h | h | h | h <;> subst h <;> simp

/-- A byte is its two nibbles, as `rx4` puts them together. -/
theorem byte_of_nibbles (b : Byte) :
    (0#8 ||| ((b.extractLsb' 4 4).setWidth 8 <<< 4)) ||| ((b.extractLsb' 0 4).setWidth 8 <<< 0) = b := by
  apply BitVec.eq_of_getLsbD_eq
  intro i hi
  have : i = 0 ∨ i = 1 ∨ i = 2 ∨ i = 3 ∨ i = 4 ∨ i = 5 ∨ i = 6 ∨ i = 7 := by omega
  rcases this with h | h | h | h | h | h | h | h <;> subst h <;> simp

/-- The loop of `rx4` from a state whose four lanes are released. -/
theorem rx4_loop (u : State) (h3 : u.qio.io3.dir = .input) (h2 : u.qio.io2.dir = .input)
    (h1 : u.qio.io1.dir = .input) (h0 : u.qio.io0.dir = .input) :
    loop 2 (fun j (rs : Byte × State) =>
        let (nib, s) := qpulseSample sampleNibble rs.2
        (rs.1 ||| (nib.setWidth 8 <<< (4 - 4 * j)), emit (.r4 nib) s)) (0, u)
      = (byteAt u, qspiLeft 8 u.qio (wireIn .four (byteAt u)) u) := by
  have e := byte_of_nibbles (byteAt u)
  rw [byteAt_high, byteAt_low] at e
  refine Prod.ext ?_ ?_
  · simpa [loop, pulse4_eq, h3, h2, h1, h0] using e
  · simp [loop, pulse4_eq, h3, h2, h1, h0, wireIn, byteAt_high, byteAt_low]

/-- `rx4` (41_qspi.md R137): two pulses, the byte of the next eight levels, the four lanes left released. -/
theorem rx4_eq (s : State) :
    rx4 s = (byteAt s, qspiLeft 8 (lanesAfterIn .four s.qio) (wireIn .four (byteAt s)) s) := by
  rw [← byteAt_congr (s := { s with qio := lanesAfterIn .four s.qio }) (t := s) rfl rfl,
    ← qspiLeft_from _ _ (lanesAfterIn .four s.qio)]
  exact rx4_loop { s with qio := lanesAfterIn .four s.qio } rfl rfl rfl rfl

/-- `rxw` (41_qspi.md R139): in every width, the byte of the next eight levels. -/
theorem rxw_eq (w : Width) (s : State) :
    rxw w s = (byteAt s, qspiLeft 8 (lanesAfterIn w s.qio) (wireIn w (byteAt s)) s) := by
  cases w
  · exact rx1_eq s
  · exact rx2_eq s
  · exact rx4_eq s

/-- The loop of `transfer` from a state whose `QIO[1]` is released. -/
theorem transfer_loop (b : Byte) (u : State) (h : u.qio.io1.dir = .input) :
    loop 8 (fun j (rs : Byte × State) =>
        let (v, s) := qpulseSample (sampleLane .io1) (driveLane .io0 (b.getLsbD (7 - j)) rs.2)
        (putBit rs.1 (7 - j) v, emit (.x1 (b.getLsbD (7 - j)) v) s)) (0, u)
      = (byteAt u, qspiLeft 8 { u.qio with io0 := Pin.drive (b.getLsbD 0) } (wireDuplex b (byteAt u)) u) := by
  have p (v : Level) (t : State) (ht : t.qio.io1.dir = .input) :
      qpulseSample (sampleLane .io1) (driveLane .io0 v t)
        = (levelAt t 0, qspiLeft 1 { t.qio with io0 := Pin.drive v } [] t) := by
    rw [pulse1_eq _ (by exact ht)]
    rfl
  simp [loop, p, h, wireDuplex, (byteAt_eq_putBits u).symm]

/-- The byte of `transfer` (41_qspi.md R155): eight pulses, the byte of the next eight levels; `QIO[0]` left driven at bit
0 of the byte sent, `QIO[1]` left released. -/
theorem transferByte_eq (b : Byte) (s : State) :
    transferByte b s = (byteAt s, qspiLeft 8
      { s.qio with io0 := Pin.drive (b.getLsbD 0), io1 := s.qio.io1.release } (wireDuplex b (byteAt s)) s) := by
  rw [← byteAt_congr (s := { s with qio := lanesAfterIn .one s.qio }) (t := s) rfl rfl,
    ← qspiLeft_from _ _ (lanesAfterIn .one s.qio)]
  exact transfer_loop b { s with qio := lanesAfterIn .one s.qio } rfl

end Sys2Proof.Machine
end

