-- ==== Sys2Proof/Laws/Swd.lean ====
section
/-! SUPPORT. What each sequence of the SWD engine does, whole: the pins it leaves, the trace it adds, the levels it
takes; and the transaction's three ends. -/

namespace Sys2Proof.Machine

/-! ## The state a sequence leaves -/

@[simp] theorem swdLeft_swdio (n : Nat) (p : Pin) (e : List Event) (s : State) : (swdLeft n p e s).swdio = p := rfl
@[simp] theorem swdLeft_swclk (n : Nat) (p : Pin) (e : List Event) (s : State) :
    (swdLeft n p e s).swclk = Pin.drive false := rfl
@[simp] theorem swdLeft_trace (n : Nat) (p : Pin) (e : List Event) (s : State) :
    (swdLeft n p e s).trace = s.trace ++ e := rfl

@[simp] theorem levelAt_swdLeft (n k : Nat) (p : Pin) (e : List Event) (s : State) :
    levelAt (swdLeft n p e s) k = levelAt s (n + k) := levelAt_consume s n k

/-- Two sequences in a row. -/
@[simp] theorem swdLeft_swdLeft (m n : Nat) (p q : Pin) (d e : List Event) (s : State) :
    swdLeft n q e (swdLeft m p d s) = swdLeft (m + n) q (d ++ e) s := by
  ext1 <;> simp [swdLeft]
  omega

@[simp] theorem Pin.release_drive (v : Level) : (Pin.drive v).release = { dir := .input, out := v } := rfl
@[simp] theorem Pin.release_dir (p : Pin) : p.release.dir = .input := rfl
@[simp] theorem Pin.release_release (p : Pin) : p.release.release = p.release := rfl
@[simp] theorem Pin.release_mk (d : Dir) (v : Level) :
    ({ dir := d, out := v } : Pin).release = { dir := .input, out := v } := rfl

/-! ## One cycle -/

theorem swWriteBit_eq (b : Level) (s : State) : swWriteBit b s = swdLeft 0 (Pin.drive b) [.h b] s := by
  ext1 <;> simp [swdLeft]

theorem turnAround_eq (s : State) : turnAround s = swdLeft 0 s.swdio.release [.swdZ] s := by
  ext1 <;> simp [swdLeft]

theorem swReadBit_eq (s : State) :
    swReadBit s = (levelAt s 0, swdLeft 1 s.swdio.release [.t (levelAt s 0)] s) := by
  have e : samplePin (releaseSwdio s).swdio (releaseSwdio s) = (levelAt s 0, consume 1 (releaseSwdio s)) :=
    samplePin_released _ _ rfl
  unfold swReadBit
  dsimp only
  rw [e]
  refine Prod.ext rfl ?_
  ext1 <;> simp [swdLeft]

/-! ## Bit sequences (42_swd.md R184, R186) -/

theorem hostBits_succ {w : Nat} (v : BitVec w) (n : Nat) : hostBits v (n + 1) = hostBits v n ++ [.h (v.getLsbD n)] := by
  simp [hostBits, List.range_succ]

/-- n + 1 bits written: the line left driven at the last one. -/
theorem swWriteBits_succ {w : Nat} (v : BitVec w) (n : Nat) (s : State) :
    swWriteBits v (n + 1) s = swdLeft 0 (Pin.drive (v.getLsbD n)) (hostBits v (n + 1)) s := by
  induction n with
  | zero =>
    change swWriteBit (v.getLsbD 0) s = _
    rw [swWriteBit_eq]
    rfl
  | succ n ih =>
    change swWriteBit (v.getLsbD (n + 1)) (swWriteBits v (n + 1) s) = _
    rw [ih, swWriteBit_eq, swdLeft_swdLeft, hostBits_succ v (n + 1)]

/-- n + 1 cycles of line reset: the line left driven high. -/
theorem lineReset_succ (n : Nat) (s : State) :
    lineReset (n + 1) s = swdLeft 0 (Pin.drive true) (List.replicate (n + 1) (.h true)) s := by
  induction n with
  | zero =>
    change swWriteBit true s = _
    rw [swWriteBit_eq]
    rfl
  | succ n ih =>
    change swWriteBit true (lineReset (n + 1) s) = _
    rw [ih, swWriteBit_eq, swdLeft_swdLeft, List.replicate_succ' (n := n + 1)]

/-- The bits a read loop has put together after m cycles. -/
theorem swReadBits_loop {w : Nat} (m : Nat) (s : State) :
    loop (m + 1) (fun i (rs : BitVec w × State) =>
        let (v, s) := swReadBit rs.2
        (putBit rs.1 i v, s)) (0, s)
      = (loop (m + 1) (fun i r => putBit r i (levelAt s i)) 0,
        swdLeft (m + 1) s.swdio.release ((List.range (m + 1)).map (fun i => .t (levelAt s i))) s) := by
  induction m with
  | zero => simp [loop, swReadBit_eq]
  | succ m ih =>
    rw [loop_succ (m + 1), ih]
    dsimp only
    rw [swReadBit_eq]
    simp [loop_succ (m + 1), List.range_succ (n := m + 1)]

/-- n + 1 bits read: the value of the next levels, bit 0 first; the line left released. -/
theorem swReadBits_succ (n : Nat) (s : State) :
    swReadBits (n + 1) s = (ofLevels (n + 1) (levelAt s),
      swdLeft (n + 1) s.swdio.release (targetBits (ofLevels (n + 1) (levelAt s)) (n + 1)) s) := by
  unfold swReadBits
  rw [swReadBits_loop]
  refine Prod.ext rfl ?_
  dsimp only
  congr 1
  unfold targetBits
  apply List.map_congr_left
  intro i hi
  rw [getLsbD_ofLevels, decide_eq_true (List.mem_range.mp hi), Bool.true_and]

/-! ## The phases of the transaction (42_swd.md R190) -/

@[simp] theorem ackAt_swdLeft_zero (p : Pin) (e : List Event) (s : State) : ackAt (swdLeft 0 p e s) = ackAt s :=
  ofLevels_congr fun i _ => by simp

/-- Header and first turnaround. -/
theorem headerPhase_eq (h : Byte) (s : State) :
    turnAround (sendHeader h s)
      = swdLeft 0 { dir := .input, out := h.getLsbD 7 } (hostBits h 8 ++ [.swdZ]) s := by
  unfold sendHeader
  rw [swWriteBits_succ h 7, turnAround_eq]
  simp

theorem eq_swdAckOk {a : BitVec 3} (h : ackIsOk a = true) : a = Config.swdAckOk := by
  simpa [ackIsOk] using h

/-- The acknowledgement phase: three cycles, and a turnaround when the value is not OK. -/
theorem ackPhase_eq (u : State) :
    ackPhase u =
      if ackIsOk (ackAt u) then (true, swdLeft 3 u.swdio.release (targetBits Config.swdAckOk 3) u)
      else (false, swdLeft 3 u.swdio.release (targetBits (ackAt u) 3 ++ [.swdZ]) u) := by
  have e : swReadBits 3 u = (ackAt u, swdLeft 3 u.swdio.release (targetBits (ackAt u) 3) u) := swReadBits_succ 2 u
  unfold ackPhase
  rw [e]
  dsimp only
  by_cases h : ackIsOk (ackAt u) = true
  · rw [if_pos h, if_pos h, eq_swdAckOk h]
  · rw [if_neg h, if_neg h, turnAround_eq]
    simp

/-- The data phase of a read: 34 cycles, 33 levels. -/
theorem readDataPhase_eq (u : State) :
    readDataPhase u =
      { ok := levelAt u 32 == parity32 (ofLevels 32 (levelAt u))
        data := if levelAt u 32 = parity32 (ofLevels 32 (levelAt u)) then ofLevels 32 (levelAt u) else 0
        state := swdLeft 33 u.swdio.release
          (targetBits (ofLevels 32 (levelAt u)) 32 ++ [.t (levelAt u 32)] ++ [.swdZ]) u } := by
  unfold readDataPhase
  rw [swReadBits_succ 31]
  dsimp only
  rw [swReadBit_eq]
  dsimp only
  rw [turnAround_eq]
  simp only [swdLeft_swdLeft, levelAt_swdLeft, swdLeft_swdio, Pin.release_release, Nat.add_zero]
  by_cases h : levelAt u 32 = parity32 (ofLevels 32 (levelAt u)) <;> simp [h]

/-- The data phase of a write: 34 cycles. -/
theorem writeDataPhase_eq (wdata : Word) (u : State) :
    writeDataPhase wdata u =
      { ok := true, data := 0
        state := swdLeft 0 (Pin.drive (parity32 wdata))
          ([.swdZ] ++ hostBits wdata 32 ++ [.h (parity32 wdata)]) u } := by
  unfold writeDataPhase
  rw [turnAround_eq, swWriteBits_succ wdata 31, swWriteBit_eq]
  simp

/-! ## Headers (30_encoding.md R91) and the acknowledgement's check -/

theorem header_rnw (apndp rnw : Level) (a : BitVec 2) : (header apndp rnw a).getLsbD 2 = rnw := by
  revert apndp rnw a
  decide

theorem ackIsOk_iff (a : BitVec 3) : ackIsOk a = true ↔ a = 1#3 := by simp [ackIsOk, Config.swdAckOk]

theorem ackIsOk_of_eq {a : BitVec 3} (h : a = 1#3) : ackIsOk a = true := (ackIsOk_iff a).mpr h

theorem ackIsOk_of_ne {a : BitVec 3} (h : a ≠ 1#3) : ackIsOk a = false :=
  Bool.eq_false_iff.mpr fun k => h ((ackIsOk_iff a).mp k)

/-- The header's address bits are `OP_A[3:2]` (30_encoding.md R83). -/
theorem headerAddr_op (opA : Word) : headerAddr (opApAddr opA) = opA.extractLsb' 2 2 := by
  apply BitVec.eq_of_getLsbD_eq
  intro i hi
  have : 2 + i < 8 := by omega
  simp [headerAddr, opApAddr, hi]

/-! ## The three ends of a transaction -/

/-- A transaction that is not acknowledged (42_swd.md R192). -/
theorem swdXfer_aborted (h : Byte) (wdata : Word) (s : State) (ha : ackIsOk (ackAt s) = false) :
    swdXfer h wdata s = { ok := false, data := 0, state := leftAborted h s } := by
  unfold swdXfer
  rw [headerPhase_eq, ackPhase_eq, ackAt_swdLeft_zero, ha]
  simp [leftAborted, abortedTrace]

/-- An acknowledged read (42_swd.md R190, R193). -/
theorem swdXfer_read (h : Byte) (wdata : Word) (s : State) (hr : h.getLsbD 2 = true) (ha : ackIsOk (ackAt s) = true) :
    swdXfer h wdata s =
      { ok := parityAt s == parity32 (wordAt s)
        data := if parityAt s = parity32 (wordAt s) then wordAt s else 0
        state := leftRead h s } := by
  have e : ∀ p d, ofLevels 32 (levelAt (swdLeft 3 p d s)) = wordAt s := fun p d =>
    ofLevels_congr fun i _ => by simp
  unfold swdXfer
  rw [headerPhase_eq, ackPhase_eq, ackAt_swdLeft_zero, if_pos ha]
  simp only [Bool.not_true, Bool.false_eq_true, if_false, hr, if_true, readDataPhase_eq, swdLeft_swdLeft, levelAt_swdLeft,
    e, Nat.zero_add]
  simp [leftRead, readTrace, parityAt]
  rfl

/-- An acknowledged write (42_swd.md R190). -/
theorem swdXfer_write (h : Byte) (wdata : Word) (s : State) (hr : h.getLsbD 2 = false)
    (ha : ackIsOk (ackAt s) = true) :
    swdXfer h wdata s = { ok := true, data := 0, state := leftWritten h wdata s } := by
  unfold swdXfer
  rw [headerPhase_eq, ackPhase_eq, ackAt_swdLeft_zero, if_pos ha]
  simp only [Bool.not_true, Bool.false_eq_true, if_false, hr, writeDataPhase_eq, swdLeft_swdLeft]
  simp [leftWritten, writeTrace]

/-! ## Steps (a) to (d) of `init()` (42_swd.md R200) -/

/-- The connection sequence with a line reset of n + 1 cycles: `SWCLK` driven low, `SWDIO` driven low at its end. -/
theorem swdConnect_succ (n : Nat) (switch : BitVec 16) (s : State) :
    swdConnect (n + 1) switch s = swdLeft 0 (Pin.drive false) (connectTrace (n + 1) switch) s := by
  unfold swdConnect
  have z : swWriteBits (0 : Byte) Config.swdIdleClocks = swWriteBits (0 : Byte) (7 + 1) := rfl
  rw [z, lineReset_succ, swWriteBits_succ switch 15, lineReset_succ, swWriteBits_succ]
  simp only [swdLeft_swdLeft]
  have e : hostBits (0 : Byte) (7 + 1) = List.replicate 8 (.h false) := by decide
  rw [e]
  simp [connectTrace]
  rfl

end Sys2Proof.Machine
end

