-- ==== Sys2Proof/Laws/Wire.lean ====
section
/-! SUPPORT. What the wire rows' shared operations do, whole. -/

namespace Sys2Proof.Machine

/-- A header sent: eight cycles, the line left driven at the park bit (30_encoding.md R91). -/
theorem sendHeader_eq (h : Byte) (s : State) :
    sendHeader h s = swdLeft 0 (Pin.drive (h.getLsbD 7)) (hostBits h 8) s := swWriteBits_succ h 7 s

/-- The levels of an acknowledgement put in front of the environment's are the ones read. -/
theorem ackAt_presented (a : BitVec 3) (s : State) :
    ackAt { s with answers := [a.getLsbD 0, a.getLsbD 1, a.getLsbD 2] ++ s.answers } = a := by
  rw [← ofLevels_getLsbD a]
  unfold ackAt
  apply ofLevels_congr
  intro i hi
  have : i = 0 ∨ i = 1 ∨ i = 2 := by omega
  rcases this with rfl | rfl | rfl <;> simp [levelAt, ofLevels_getLsbD]

/-- The acknowledgement phase of a presented value: its three bits and no level of the environment's own; a turnaround and
the failure when it is not OK (42_swd.md R192). -/
theorem presentAck_eq (a : BitVec 3) (s : State) :
    presentAck a s =
      if a = 1#3 then swdLeft 0 s.swdio.release (targetBits a 3) s
      else returnFail (swdLeft 0 s.swdio.release (targetBits a 3 ++ [.swdZ]) s) := by
  have e : ∀ p t, swdLeft 3 p t { s with answers := [a.getLsbD 0, a.getLsbD 1, a.getLsbD 2] ++ s.answers }
      = swdLeft 0 p t s := by
    intro p t
    ext1 <;> simp [swdLeft, consume]
  unfold presentAck
  rw [ackPhase_eq, ackAt_presented]
  by_cases h : a = 1#3
  · rw [if_pos h, ackIsOk_of_eq h]
    simp only [if_true, e]
    subst h
    rfl
  · rw [if_neg h, ackIsOk_of_ne h]
    simp only [Bool.false_eq_true, if_false, e]

end Sys2Proof.Machine
end

