-- ==== Sys2Proof/Tests/Slice0.lean ====
section
/-! SUPPORT. Tests: expected values are the spec's own (95_test_vectors.md unless said otherwise), and witnesses that the
statements' hypotheses can be met. -/

namespace Sys2Proof.Tests

open Sys2Proof.Machine

/-! ## Helpers -/

/-- The state after an instruction that completes. -/
def after (i : Instr) (s : State) : State :=
  match exec i s with
  | .next t => t
  | .fault _ => s
  | .refused _ => s

/-- What the instruction adds to the wire trace. -/
def adds (i : Instr) (s : State) : List Event := (after i s).trace.drop s.trace.length

/-- `STATUS` and `RES` after the instruction. -/
def ends (i : Instr) (s : State) : BitVec 1 × Word := ((after i s).status, (after i s).res)

/-- The reset state with operands. -/
def ops (a b : Word) : State := { State.reset with opA := a, opB := b }

/-- The reset state with operands and a mode. -/
def inMode (m : Mode) (a b : Word) : State := { ops a b with qmode := m }

/-- The reset state with operands, and the levels the environment has ready. -/
def env (a b : Word) (l : List Level) : State := { ops a b with answers := l }

/-- Bits of a number, bit 0 first. -/
def bitsOf (n : Nat) (v : Word) : List Level := (List.range n).map v.getLsbD

/-- A target's answer to a read: acknowledgement 1, the word, a parity bit. -/
def answer (v : Word) (p : Level) : List Level := [true, false, false] ++ bitsOf 32 v ++ [p]

/-! ## Well-formedness: the one check and an ill-formed term -/

theorem test_wf_parity_ok : (Instr.swdRequest false true false false true).wellFormed = true := by decide
theorem test_wf_parity_wrong : (Instr.swdRequest false true false false false).wellFormed = false := by decide

/-! ## Decoding: words written out from the tables of 30_encoding.md and 95_test_vectors.md -/

theorem test_decode_crc_update : (decode (.request 0x020000003100000000#72)).toOption = some .crcUpdate := by decide
theorem test_decode_crc_operand : recordOpA 0x020000003100000000#72 = 0x31#32 := by decide
theorem test_decode_address : (decode (.request 0x160000123400000003#72)).toOption = some .qspiSendAddress := by decide
theorem test_decode_address_operands :
    recordOpA 0x160000123400000003#72 = 0x1234#32 ∧ recordOpB 0x160000123400000003#72 = 3#32 := by decide
theorem test_decode_swd_init : (decode (.request 0x200000000000000000#72)).toOption = some .swdInit := by decide
theorem test_decode_undefined : (decode (.request 0x040000000000000000#72)).toOption = none := by decide
theorem test_decode_pattern :
    (decode (.wire .swdRequest 0b10001011#8)).toOption = some (.swdRequest true false true false false) := by decide
theorem test_decode_pattern_parity : (decode (.wire .swdRequest 0b10101011#8)).toOption = none := by decide
theorem test_decode_pattern_stop : (decode (.wire .swdRequest 0b11000001#8)).toOption = none := by decide
theorem test_decode_header : (decode (.wire .swdHeader 0b10111101#8)).toOption = some .swdHdrDpReadC := by decide
theorem test_decode_ack : (decode (.wire .swdAck 0b001#8)).toOption = some .swdAckOk := by decide
theorem test_decode_ack_wait : (decode (.wire .swdAck 0b010#8)).toOption = some .swdAckBad2 := by decide
theorem test_decode_command : (decode (.wire .qspiCmdByte 0x38#8)).toOption = some .qpiEnterByte := by decide
theorem test_decode_mode : (decode (.wire .qmode 4#8)).toOption = some .qmodeQuadIo := by decide
theorem test_decode_mode_none : (decode (.wire .qmode 6#8)).toOption = none := by decide
theorem test_table_word : decodeTableWord 8 0x25 = some .swdTurnaround := by decide
theorem test_table_word_header : decodeTableWord 8 0xA5 = some .swdHdrDpRead0 := by decide

/-- The first step after reset runs the word the host places. -/
theorem test_first_step :
    step (State.reset.withFetchWord 8 0x11) = .next { State.reset with
      qcs := { dir := .output, out := false }, trace := [.cs0] } := rfl

/-! ## The CRC unit (section 2.1) -/

theorem test_crc_table : crcEntry 0x01#8 = 0x77073096#32 ∧ crcEntry 0x80#8 = 0xEDB88320#32
    ∧ crcEntry 0xFF#8 = 0x2D02EF8D#32 := by decide
theorem test_crc_update : (after .crcUpdate (ops 0xFFFFFF31#32 0)).crcAcc = 0x7C231048#32 := by decide
theorem test_crc_final : ends .crcFinal { State.reset with crcAcc := 0x340BC6D9#32 } = (0#1, 0xCBF43926#32) := by decide
theorem test_crc_check :
    crc32 [0x31#8, 0x32#8, 0x33#8, 0x34#8, 0x35#8, 0x36#8, 0x37#8, 0x38#8, 0x39#8] = 0xCBF43926#32 := by decide
theorem test_crc_abc : crc32 [0x61#8, 0x62#8, 0x63#8] = 0x352441C2#32 := by decide
theorem test_crc_residue : crcFold 0xFFFFFFFF#32 [0x00#8, 0x00#8, 0x00#8, 0x00#8] = 0xDEBB20E3#32 := by decide

/-! ## The QSPI engine (section 2.2) -/

theorem test_qspi_init_pins : (after .qspiInit State.reset).qcs = { dir := .output, out := true }
    ∧ (after .qspiInit State.reset).qclk = { dir := .output, out := false } := by decide
theorem test_cs_low_before_init : (after .qspiCsLow State.reset).qclk = { dir := .input, out := false } := by decide
theorem test_set_mode : (after .qspiSetMode (ops 4 0)).qmode = .quadIo := by decide
theorem test_set_mode_105 : ends .qspiSetMode (inMode .quadIo 0x105#32 0) = (1#1, 0#32) := by decide
theorem test_get_mode : ends .qspiGetMode (inMode .quadIo 0 0) = (0#1, 4#32) := by decide
theorem test_write_standard : adds .qspiWriteData (ops 0xA5#32 0)
    = [.w1 true, .w1 false, .w1 true, .w1 false, .w1 false, .w1 true, .w1 false, .w1 true] := by decide
theorem test_write_dual : adds .qspiWriteData (inMode .dualIo 0x6B#32 0)
    = [.w2 false true, .w2 true false, .w2 true false, .w2 true true] := by decide
theorem test_write_quad : adds .qspiWriteData (inMode .quadOut 0x6B#32 0) = [.w4 0x6#4, .w4 0xB#4] := by decide
theorem test_write_lane : (after .qspiWriteData (ops 0xA5#32 0)).qio.io0 = { dir := .output, out := true } := by decide
theorem test_command_qpi : adds .qspiSendCommand (inMode .qpi 0x0B#32 0) = [.w4 0x0#4, .w4 0xB#4] := by decide
theorem test_command_quad_is_one_wire : adds .qspiSendCommand (inMode .quadIo 0x38#32 0)
    = [.w1 false, .w1 false, .w1 true, .w1 true, .w1 true, .w1 false, .w1 false, .w1 false] := by decide
theorem test_address_dual_io : adds .qspiSendAddress (inMode .dualIo 0x123456#32 3)
    = [.w2 false false, .w2 false true, .w2 false false, .w2 true false, .w2 false false, .w2 true true,
       .w2 false true, .w2 false false, .w2 false true, .w2 false true, .w2 false true, .w2 true false] := by decide
theorem test_address_four : adds .qspiSendAddress (inMode .qpi 0x89ABCDEF#32 4)
    = [.w4 0x8#4, .w4 0x9#4, .w4 0xA#4, .w4 0xB#4, .w4 0xC#4, .w4 0xD#4, .w4 0xE#4, .w4 0xF#4] := by decide
theorem test_address_length : ends .qspiSendAddress (ops 0x123456#32 2) = (1#1, 0#32) := by decide
theorem test_dummy_none : (after .qspiSendDummy (ops 0 0)).qclk = { dir := .input, out := false } := by decide
theorem test_dummy_two : adds .qspiSendDummy (ops 2 0) = [.z, .z] := by decide
theorem test_read_standard :
    ends .qspiReadData (env 0 0 [true, true, true, false, true, true, true, true]) = (0#1, 0xEF#32) := by decide
theorem test_read_dual : ends .qspiReadData { env 0 0 [true, false, true, false, false, true, false, true] with
    qmode := .dualOut } = (0#1, 0xA5#32) := by decide
theorem test_read_quad : adds .qspiReadData { env 0 0 [true, true, false, true, true, true, true, false] with
    qmode := .quadIo } = [.r4 0xD#4, .r4 0xE#4] := by decide
theorem test_transfer :
    ends .qspiTransfer (env 0 0 [true, true, true, false, true, true, true, true]) = (0#1, 0xEF#32) := by decide
theorem test_transfer_refused : ends .qspiTransfer (inMode .quadIo 0x9F#32 0) = (1#1, 0#32) := by decide
theorem test_enter_qpi : (after .qspiEnterQpi (inMode .dualIo 0 0)).qmode = .qpi
    ∧ adds .qspiEnterQpi (inMode .qpi 0 0)
      = [.w1 false, .w1 false, .w1 true, .w1 true, .w1 true, .w1 false, .w1 false, .w1 false] := by decide
theorem test_exit_qpi : (after .qspiExitQpi (inMode .dualOut 0 0)).qmode = .standard
    ∧ adds .qspiExitQpi (inMode .dualOut 0 0) = [.w4 0xF#4, .w4 0xF#4] := by decide

/-! ## The SWD engine (section 2.3) -/

theorem test_parity : parity32 0x7FFFFFFF#32 = true ∧ parity32 0x2BA01477#32 = false
    ∧ parity32 0x20000000#32 = true := by decide
theorem test_select : selectValue 0x02#8 0x13#8 = 0x02000010#32 := by decide
theorem test_turnaround : adds .swdTurnaround State.reset = [.swdZ] := by decide
theorem test_read_dp : ends .swdReadDp (env 0 0 (answer 0x2BA01477#32 false)) = (0#1, 0x2BA01477#32) := by decide
theorem test_read_dp_parity : ends .swdReadDp (env 0 0 (answer 0x2BA01477#32 true)) = (1#1, 0#32) := by decide
theorem test_read_dp_no_answer : adds .swdReadDp (env 0xFFFFFFF0#32 0 [true, true, true])
    = [.h true, .h false, .h true, .h false, .h false, .h true, .h false, .h true, .swdZ, .t true, .t true, .t true,
       .swdZ] := by decide
theorem test_write_dp : adds .swdWriteDp (env 0x8#32 0xF0#32 [true, false, false])
    = [.h true, .h false, .h false, .h false, .h true, .h true, .h false, .h true, .swdZ, .t true, .t false, .t false,
       .swdZ] ++ List.replicate 4 (.h false) ++ List.replicate 4 (.h true) ++ List.replicate 25 (.h false) := by decide
theorem test_write_dp_line :
    (after .swdWriteDp (env 0 0x80000000#32 [true, false, false])).swdio = { dir := .output, out := true } := by decide
set_option maxRecDepth 16384 in
theorem test_init_with_answer :
    (swdInitWith 50 0xE79E#16 (env 0 0 (answer 0x2BA01477#32 false))).res = 0x2BA01477#32
      ∧ (swdInitWith 50 0xE79E#16 (env 0 0 (answer 0x2BA01477#32 false))).trace.length = 170 := by decide
set_option maxRecDepth 16384 in
theorem test_read_ap_stale : ends .swdReadAp (env 0xFC#32 0
    ([true, false, false] ++ answer 0xDEADBEEF#32 false ++ answer 0x24770011#32 false))
      = (0#1, 0x24770011#32) := by decide
set_option maxRecDepth 16384 in
theorem test_read_ap_stale_parity : (adds .swdReadAp (env 0xFC#32 0
    ([true, false, false] ++ answer 0xDEADBEEF#32 true))).length = 92 := by decide
set_option maxRecDepth 16384 in
theorem test_write_ap : (adds .swdWriteAp (env 0x104#32 0x20000000#32
    [true, false, false, true, false, false])).getLast? = some (.h true) := by decide
set_option maxRecDepth 16384 in
theorem test_write_ap_refused : (adds .swdWriteAp (env 0x104#32 0x20000000#32
    [true, false, false, false, false, true])).length = 59 := by decide

/-! ## The wire encodings -/

theorem test_header_row : adds .swdHdrDpWrite8 State.reset
    = [.h true, .h false, .h false, .h false, .h true, .h true, .h false, .h true] := by decide
theorem test_ack_row : ends .swdAckBad4 State.reset = (1#1, 0#32)
    ∧ adds .swdAckBad4 State.reset = [.t false, .t false, .t true, .swdZ] := by decide
theorem test_mode_row : (after .qmodeQuadOut State.reset).qmode = .quadOut := by decide

/-! ## Witnesses of the statements' hypotheses -/

/-- ResetEventForgetsTheBlock, and the reset clause of StepRunsTheDecodedInstruction. -/
theorem witness_reset_event : ({ State.reset with inbox := [.reset] } : State).inbox = .reset :: [] := by decide

/-- StepKeepsTheInvariant: the reset state meets it, and a step from there completes. -/
theorem witness_invariant : FailClearsResult State.reset ∧ ClocksRestLow State.reset ∧ UpperLanesTogether State.reset
    ∧ DrivenNeedsClock State.reset ∧ LineAgrees State.reset ∧ SelectAgrees State.reset
    ∧ step State.reset = .next State.reset :=
  ⟨by decide, by decide, by decide, by decide, rfl, rfl, rfl⟩

/-- StepRunsTheDecodedInstruction: a request that decodes and one that does not (the second also for
EverythingRunsToCompletion and UndefinedOpcodeRefused). -/
theorem witness_requests : decode (.request 0x110000000000000000#72) = .ok .qspiCsLow
    ∧ decode (.request 0x000000000000000000#72) = .error (.undefinedOpcode 0x00#8)
    ∧ decode (.request 0xFF0000000000000000#72) = .error (.undefinedOpcode 0xFF#8) := ⟨rfl, rfl, rfl⟩

/-- StepRunsTheDecodedInstruction: a wire code that decodes and one that does not. -/
theorem witness_wire_codes : decode (.wire .qmode 5#8) = .ok .qmodeQpi
    ∧ decode (.wire .qmode 6#8) = .error (.modeCode 6#8) := ⟨rfl, rfl⟩

/-- StepRunsTheDecodedInstruction: the states of its clauses. -/
theorem witness_inboxes :
    ({ State.reset with inbox := [.word (.request 0x110000000000000000#72)] } : State).inbox
      = .word (.request 0x110000000000000000#72) :: []
    ∧ ({ State.reset with inbox := [.word (.wire .qmode 6#8)] } : State).inbox = .word (.wire .qmode 6#8) :: []
    ∧ State.reset.inbox = [] := by decide

/-- DecodeEncodeRoundTrip: a well-formed instruction of each kind. -/
theorem witness_well_formed : Instr.swdReadAp.WellFormed ∧ Instr.swdReadAp.isOperation = true
    ∧ (Instr.swdRequest true true true false true).WellFormed := by decide

/-- EncodeDecodeRoundTrip. -/
theorem witness_decodes : decode (.wire .swdRequest 0xAF#8) = .ok (.swdRequest true true true false true) := rfl

/-- RequestFieldsAndUnits: two records with one code; a code of each unit. -/
theorem witness_codes : (0x200000000000000000#72).extractLsb' 64 8 = (0x2012345678FFFFFFFF#72).extractLsb' 64 8
    ∧ (decodeOpcode 0x03#8).toOption = some .crcFinal ∧ (decodeOpcode 0x1C#8).toOption = some .qspiExitQpi
    ∧ (decodeOpcode 0x25#8).toOption = some .swdTurnaround := by decide

/-- UnreadOperandBitsAreIgnored: operands that differ, and agree on what is read, at both ends of an address. -/
theorem witness_operand_bits : Instr.swdReadAp.isOperation = true
    ∧ 0xABCD0213#32 &&& (operandMask .swdReadAp).1 = 0x00000210#32 &&& (operandMask .swdReadAp).1
    ∧ 0x00123456#32 &&& 0xFFFFFF#32 = 0xFF123456#32 &&& 0xFFFFFF#32 := by decide

/-- UnitsShareNothing: two states that agree on a unit's rows and differ elsewhere. -/
theorem witness_unit_rows : Instr.crcUpdate.unit? = some .crc ∧ SameCrc State.reset (after .qspiInit State.reset)
    ∧ SameOperands State.reset (after .qspiInit State.reset) ∧ SameEnvironment State.reset (after .qspiInit State.reset)
    ∧ State.reset ≠ after .qspiInit State.reset := by decide

/-- TraceGrowsInItsOwnAlphabet: an instruction of each unit. -/
theorem witness_units : Instr.crcInit.unit? = some .crc ∧ Instr.qspiInit.unit? = some .qspi
    ∧ Instr.swdInit.unit? = some .swd := by decide

/-- CrcScriptComputesTheFunction: the scripts of the empty sequence and of one byte. -/
theorem witness_crc_script :
    ({ State.reset with inbox := crc32Script [] } : State).inbox = crc32Script [] ++ []
    ∧ ({ State.reset with inbox := crc32Script [0xFF#8] ++ [.reset] } : State).inbox = crc32Script [0xFF#8] ++ [.reset] := by
  decide

/-- OneCorruptedByteIsDetected, FrameLayout, FrameCheckIsTheResidueTest: an empty frame, its first and its last byte
replaced. -/
theorem witness_frame : (frame 0x55#8 { sequence := 1, command := 2, flags := 0, payload := [] }).length = 10
    ∧ (frame 0x55#8 { sequence := 1, command := 2, flags := 0, payload := [] })[0]? ≠ some 0x54#8
    ∧ frameAccepted ((frame 0x55#8 { sequence := 1, command := 2, flags := 0, payload := [] }).set 0 0x54#8) = false
    ∧ frameAccepted (frame 0x55#8 { sequence := 1, command := 2, flags := 0, payload := [] }) = true := by decide

/-- FrameLayout: the largest payload fits. -/
theorem witness_frame_bound : (List.replicate 4096 (0#8)).length ≤ 4096 := Nat.le_of_eq List.length_replicate

/-- ChipSelectIsTheCallers, ModeIsWrittenAndReadByTheListed: instructions outside the lists. -/
theorem witness_others : Instr.qspiEnterQpi ∉ [Instr.qspiInit, .qspiCsLow, .qspiCsHigh]
    ∧ Instr.qspiInit.isOperation = true ∧ Instr.qspiInit ∉ [Instr.qspiSetMode, .qspiEnterQpi, .qspiExitQpi]
    ∧ Instr.qspiSetMode ∉ [Instr.qspiSendCommand, .qspiSendAddress, .qspiWriteData, .qspiReadData, .qspiTransfer,
      .qspiGetMode] := by decide

/-- SetModeEffect: the two sides of the bound. -/
theorem witness_set_mode : (ops 5 0).opA = 5#32 ∧ (ops 6 0).opA > 5#32 ∧ ¬ (ops 5 0).opA > 5#32 := by decide

/-- GetModeEffect, SendCommandEffect, WriteDataEffect, ReadDataEffect, TransferEffect, PulsesPerOperation: a state in every
mode. -/
theorem witness_modes : (inMode .standard 0 0).qmode = .standard ∧ (inMode .dualOut 0 0).qmode = .dualOut
    ∧ (inMode .dualIo 0 0).qmode = .dualIo ∧ (inMode .quadOut 0 0).qmode = .quadOut
    ∧ (inMode .quadIo 0 0).qmode = .quadIo ∧ (inMode .qpi 0 0).qmode = .qpi ∧ (inMode .quadIo 0 0).qmode ≠ .qpi := by decide

/-- SendAddressEffect, PulsesPerOperation: both lengths and their neighbours. -/
theorem witness_lengths : (ops 0 3).opB = 3#32 ∧ (ops 0 4).opB = 4#32 ∧ (ops 0 2).opB ≠ 3#32 ∧ (ops 0 2).opB ≠ 4#32
    ∧ (ops 0 5).opB ≠ 3#32 ∧ (ops 0 5).opB ≠ 4#32 := by decide

/-- WriteReadRoundTrip: a reader to whom the environment presents what a write drove. -/
theorem witness_round_trip :
    ends .qspiReadData { inMode .dualIo 0 0 with
      answers := (adds .qspiWriteData (inMode .dualIo 0x6B#32 0)).flatMap Event.drivenLevels ++ [true] }
      = (0#1, 0x6B#32) := by decide

/-- BuffersAreTheirBytes: the scripts. -/
theorem witness_buffers :
    ({ State.reset with inbox := qspiWriteBufScript [0xA5#8, 0x3C#8] } : State).inbox
      = qspiWriteBufScript [0xA5#8, 0x3C#8] ++ []
    ∧ ({ State.reset with inbox := qspiReadBufScript 2 } : State).inbox = qspiReadBufScript 2 ++ []
    ∧ ({ State.reset with inbox := [request .qspiWriteData 1 0, request .qspiSetMode 2 0, request .qspiWriteData 3 0] }
        : State).inbox
      = [request .qspiWriteData ((1#8).setWidth 32) 0, request .qspiSetMode (Mode.dualIo.code.setWidth 32) 0,
        request .qspiWriteData ((3#8).setWidth 32) 0] ++ [] := by decide

/-- TransferBuffersAreTheirBytes: a script in the mode that transfers and in one that refuses. -/
theorem witness_transfer_buffer :
    ({ inMode .standard 0 0 with inbox := qspiTransferBufScript [0x9F#8, 0x00#8] } : State).inbox
      = qspiTransferBufScript [0x9F#8, 0x00#8] ++ []
    ∧ (inMode .standard 0 0).qmode = .standard
    ∧ ({ inMode .qpi 0 0 with inbox := qspiTransferBufScript [0x9F#8] ++ [.reset] } : State).inbox
      = qspiTransferBufScript [0x9F#8] ++ [.reset]
    ∧ (inMode .qpi 0 0).qmode ≠ .standard := by decide

/-- ReadDpEffect, WriteDpEffect, SwdInitEffect: the three ends of a transaction (the acknowledgement and the word of an
environment that has them ready). -/
theorem witness_acknowledgements : ackAt (env 0 0 [false, false, true]) ≠ 1#3
    ∧ ackAt (env 0 0 (answer 0x2BA01477#32 true)) = 1#3
    ∧ parityAt (env 0 0 (answer 0x2BA01477#32 true)) ≠ parity32 (wordAt (env 0 0 (answer 0x2BA01477#32 true)))
    ∧ parityAt (env 0 0 (answer 0x2BA01477#32 false)) = parity32 (wordAt (env 0 0 (answer 0x2BA01477#32 false))) := by
  decide

/-- The state after the SELECT write of an Access Port access, for a given environment. -/
def selected (l : List Level) : State :=
  leftWritten 0xB1#8 (selectValue ((0xFC#32).extractLsb' 8 8) ((0xFC#32).extractLsb' 0 8)) (env 0xFC#32 0 l)

/-- The state after the posted read. -/
def posted (l : List Level) : State := leftRead (header true true ((0xFC#32).extractLsb' 2 2)) (selected l)

/-- ReadApEffect, WriteApEffect: SELECT not acknowledged; the second transaction not acknowledged; acknowledged. -/
theorem witness_access_port : ackAt (env 0xFC#32 0 [false, false, false]) ≠ 1#3
    ∧ ackAt (env 0xFC#32 0 [true, false, false, true, true, true]) = 1#3
    ∧ ackAt (selected [true, false, false, true, true, true]) ≠ 1#3
    ∧ ackAt (selected ([true, false, false] ++ answer 0xDEADBEEF#32 true)) = 1#3 := by decide

/-- ReadApEffect: the posted read's parity wrong; RDBUFF not acknowledged; its parity wrong; delivered. -/
theorem witness_access_port_read :
    parityAt (selected ([true, false, false] ++ answer 0xDEADBEEF#32 true))
        ≠ parity32 (wordAt (selected ([true, false, false] ++ answer 0xDEADBEEF#32 true)))
      ∧ parityAt (selected ([true, false, false] ++ answer 0xDEADBEEF#32 false))
        = parity32 (wordAt (selected ([true, false, false] ++ answer 0xDEADBEEF#32 false)))
      ∧ ackAt (posted ([true, false, false] ++ answer 0xDEADBEEF#32 false ++ [false, true, false])) ≠ 1#3
      ∧ ackAt (posted ([true, false, false] ++ answer 0xDEADBEEF#32 false ++ answer 1#32 false)) = 1#3
      ∧ parityAt (posted ([true, false, false] ++ answer 0xDEADBEEF#32 false ++ answer 1#32 false))
        ≠ parity32 (wordAt (posted ([true, false, false] ++ answer 0xDEADBEEF#32 false ++ answer 1#32 false)))
      ∧ parityAt (posted ([true, false, false] ++ answer 0xDEADBEEF#32 false ++ answer 1#32 true))
        = parity32 (wordAt (posted ([true, false, false] ++ answer 0xDEADBEEF#32 false ++ answer 1#32 true))) := by
  decide

/-- TransactionIsThePhaseMachine: both lengths. -/
theorem witness_cycles : 13 = (if ackAt (env 0 0 [false, false, false]) = 1#3 then 46 else 13)
    ∧ 46 = (if ackAt (env 0 0 [true, false, false]) = 1#3 then 46 else 13) := by decide

/-- CyclesPerOperation, LineBetweenOperations: a write that succeeds and one that fails. -/
theorem witness_write_ends : (ends .swdWriteDp (env 0 1 [true, false, false])).1 = 0#1
    ∧ (ends .swdWriteDp (env 0 1 [false, false, false])).1 = 1#1 := by decide

end Sys2Proof.Tests
end

/-! What one operation does, as one value: the rows of its unit that it writes, the levels it takes, the events it adds,
and how it returns (10_state.md R21; 30_encoding.md R81). Two facts carry the statements about all operations: an effect
run from a state touches nothing else, and the effect of an operation depends on its unit's rows, the operands and the
environment only (`Local`). -/

namespace Sys2Proof.Machine

/-! ## The rows of a unit -/

/-- Values for the rows of one unit (10_state.md R20). -/
inductive Rows
  | crc (acc : Word)
  | qspi (mode : Mode) (cs clk : Pin) (io : Lanes)
  | swd (clk dio : Pin)

/-- The unit whose rows these are. -/
def Rows.unit : Rows → BlockUnit
  | .crc _ => .crc
  | .qspi _ _ _ _ => .qspi
  | .swd _ _ => .swd

/-- The rows written. -/
def Rows.write (s : State) : Rows → State
  | .crc acc => { s with crcAcc := acc }
  | .qspi mode cs clk io => { s with qmode := mode, qcs := cs, qclk := clk, qio := io }
  | .swd clk dio => { s with swclk := clk, swdio := dio }

/-- What a state holds in the rows of a unit. -/
def rowsOf (s : State) : BlockUnit → Rows
  | .crc => .crc s.crcAcc
  | .qspi => .qspi s.qmode s.qcs s.qclk s.qio
  | .swd => .swd s.swclk s.swdio

theorem sameRows_iff (u : BlockUnit) (s t : State) : SameRows u s t ↔ rowsOf s u = rowsOf t u := by
  cases u <;> simp [SameRows, rowsOf]

theorem rowsOf_write_same (r : Rows) (s : State) : rowsOf (r.write s) r.unit = r := by
  cases r <;> rfl

theorem rowsOf_write_other {r : Rows} {v : BlockUnit} (hv : v ≠ r.unit) (s : State) :
    rowsOf (r.write s) v = rowsOf s v := by
  cases r with
  | crc acc => cases v with
    | crc => exact absurd rfl hv
    | qspi | swd => rfl
  | qspi mode cs clk io => cases v with
    | qspi => exact absurd rfl hv
    | crc | swd => rfl
  | swd clk dio => cases v with
    | swd => exact absurd rfl hv
    | crc | qspi => rfl

/-! ## Effects -/

/-- How an operation returns (30_encoding.md R81): `return OK(v)`, with `return OK` as v = 0, or `return FAIL`. -/
inductive Ending
  | value (v : Word)
  | fail

/-- The return carried out. -/
def Ending.finish : Ending → State → State
  | .value v => returnValue v
  | .fail => returnFail

/-- All that an operation does. -/
structure Effect where
  rows : Rows
  levels : Nat
  events : List Event
  ending : Ending

/-- The state in which an effect leaves the machine. -/
def Effect.run (x : Effect) (s : State) : State :=
  x.ending.finish { x.rows.write (consume x.levels s) with trace := s.trace ++ x.events }

theorem run_trace (x : Effect) (s : State) : (x.run s).trace = s.trace ++ x.events := by
  obtain ⟨rows, n, e, _ | _⟩ := x <;> rfl

theorem run_inbox (x : Effect) (s : State) : (x.run s).inbox = s.inbox := by
  obtain ⟨_ | _ | _, n, e, _ | _⟩ := x <;> rfl

/-- The operands are the caller's: no effect writes them (10_state.md R23). -/
theorem run_sameOperands (x : Effect) (s : State) : SameOperands s (x.run s) := by
  obtain ⟨_ | _ | _, n, e, _ | _⟩ := x <;> exact ⟨rfl, rfl⟩

theorem run_answers (x : Effect) (s : State) : (x.run s).answers = s.answers.drop x.levels := by
  obtain ⟨_ | _ | _, n, e, _ | _⟩ := x <;> rfl

theorem run_sampleNo (x : Effect) (s : State) :
    (x.run s).sampleNo = s.sampleNo + (x.levels - s.answers.length) := by
  obtain ⟨_ | _ | _, n, e, _ | _⟩ := x <;> rfl

/-- A return touches no unit's rows, nor does the trace. -/
theorem rowsOf_run (x : Effect) (s : State) (v : BlockUnit) :
    rowsOf (x.run s) v = rowsOf (x.rows.write (consume x.levels s)) v := by
  obtain ⟨rows, n, e, _ | _⟩ := x <;> cases v <;> rfl

/-- The unit's rows after an effect are the ones it writes. -/
theorem rowsOf_run_same (x : Effect) (s : State) : rowsOf (x.run s) x.rows.unit = x.rows := by
  rw [rowsOf_run, rowsOf_write_same]

/-- The other units' rows are as before (10_state.md R21). -/
theorem rowsOf_run_other {x : Effect} {v : BlockUnit} (hv : v ≠ x.rows.unit) (s : State) :
    rowsOf (x.run s) v = rowsOf s v := by
  rw [rowsOf_run, rowsOf_write_other hv]
  cases v <;> rfl

/-- `STATUS` and `RES` after an effect do not depend on the state (30_encoding.md R81). -/
theorem run_status_res (x : Effect) (s t : State) :
    (x.run s).status = (x.run t).status ∧ (x.run s).res = (x.run t).res := by
  obtain ⟨rows, n, e, _ | _⟩ := x <;> exact ⟨rfl, rfl⟩

/-- An effect ends with `STATUS` 0, or with `STATUS` 1 and `RES` 0. -/
theorem run_ends (x : Effect) (s : State) :
    (x.run s).status = 0#1 ∨ ((x.run s).status = 1#1 ∧ (x.run s).res = 0#32) := by
  obtain ⟨rows, n, e, _ | _⟩ := x
  · exact .inl rfl
  · exact .inr ⟨rfl, rfl⟩

/-- What `STATUS` and `RES` held before an effect is lost. -/
theorem run_withStatusRes (x : Effect) (s : State) (st : BitVec 1) (v : Word) :
    x.run { s with status := st, res := v } = x.run s := by
  obtain ⟨_ | _ | _, n, e, _ | _⟩ := x <;> rfl

/-! ## Effects by unit -/

/-- A CRC operation takes no level and adds no event. -/
theorem run_crc (acc : Word) (ending : Ending) (s : State) :
    Effect.run ⟨.crc acc, 0, [], ending⟩ s = ending.finish { s with crcAcc := acc } := by
  simp [Effect.run, Rows.write]

/-- A QSPI operation that samples nothing. -/
theorem run_qspi (m : Mode) (cs clk : Pin) (io : Lanes) (e : List Event) (ending : Ending) (s : State) :
    Effect.run ⟨.qspi m cs clk io, 0, e, ending⟩ s
      = ending.finish { s with qmode := m, qcs := cs, qclk := clk, qio := io, trace := s.trace ++ e } := by
  simp [Effect.run, Rows.write]

/-- A failing operation that has done nothing. -/
theorem run_refused (u : BlockUnit) (s : State) : Effect.run ⟨rowsOf s u, 0, [], .fail⟩ s = returnFail s := by
  cases u <;> simp [Effect.run, rowsOf, Rows.write, Ending.finish]

/-! ## Locality -/

/-- The meaning of an instruction, as `exec` gives it. -/
abbrev Operation := State → Host.Outcome State Fault Refusal

/-- `f` with all that an operation of unit `u` may read taken from `s`: the unit's rows, the operands, the
environment. -/
def share (u : BlockUnit) (s f : State) : State :=
  (rowsOf s u).write { f with opA := s.opA, opB := s.opB, answers := s.answers, sampleNo := s.sampleNo }

theorem eq_share {u : BlockUnit} {s s' : State} (hr : SameRows u s s') (ho : SameOperands s s')
    (he : SameEnvironment s s') : s' = share u s s' := by
  obtain ⟨hA, hB⟩ := ho
  obtain ⟨ha, hn⟩ := he
  rw [share, (sameRows_iff u s s').mp hr, hA, hB, ha, hn]
  cases u <;> rfl

/-- The operation does one effect, of its own unit, from every state that holds the same in the unit's rows, the
operands and the environment (10_state.md R21). -/
def Local (u : BlockUnit) (op : Operation) : Prop :=
  ∀ s, ∃ x : Effect, x.rows.unit = u ∧ ∀ f, op (share u s f) = .next (x.run (share u s f))

/-- Locality, read off two states that agree. -/
theorem Local.effect {u : BlockUnit} {op : Operation} (h : Local u op) (s : State) :
    ∃ x : Effect, x.rows.unit = u ∧ op s = .next (x.run s)
      ∧ ∀ s', SameRows u s s' → SameOperands s s' → SameEnvironment s s' → op s' = .next (x.run s') := by
  obtain ⟨x, hu, hx⟩ := h s
  have agree (s' : State) (hr : SameRows u s s') (ho : SameOperands s s') (he : SameEnvironment s s') :
      op s' = .next (x.run s') := by
    rw [eq_share hr ho he]
    exact hx s'
  exact ⟨x, hu, agree s ((sameRows_iff u s s).mpr rfl) ⟨rfl, rfl⟩ ⟨rfl, rfl⟩, agree⟩

/-! ## The CRC unit -/

theorem execCrcInit_local : Local .crc execCrcInit := fun s =>
  ⟨⟨.crc Config.crcInitValue, 0, [], .value 0⟩, rfl, fun _ => by rw [run_crc]; rfl⟩

theorem execCrcUpdate_local : Local .crc execCrcUpdate := fun s =>
  ⟨⟨.crc (crcStep s.crcAcc (opByte s.opA)), 0, [], .value 0⟩, rfl, fun _ => by rw [run_crc]; rfl⟩

theorem execCrcFinal_local : Local .crc execCrcFinal := fun s =>
  ⟨⟨.crc s.crcAcc, 0, [], .value (s.crcAcc ^^^ Config.crcXorOut)⟩, rfl, fun _ => by rw [run_crc]; rfl⟩

/-! ## The QSPI engine: each operation as one phase -/

/-- What `QSPI_SET_MODE` does depends on `OP_A` alone: it refuses, or it writes one mode (41_qspi.md R143). -/
theorem execQspiSetMode_cases (a : Word) :
    (∀ s, s.opA = a → execQspiSetMode s = .next (returnFail s))
      ∨ ∃ m, ∀ s, s.opA = a → execQspiSetMode s = .next (returnOk (setMode m s)) := by
  by_cases ha : a > 5#32
  · exact .inl fun s h => by rw [execQspiSetMode, h, if_pos ha]
  · cases hm : Mode.ofCode? (opModeCode a) with
    | none => exact .inl fun s h => by rw [execQspiSetMode, h, if_neg ha, hm]
    | some m => exact .inr ⟨m, fun s h => by rw [execQspiSetMode, h, if_neg ha, hm]⟩

theorem execQspiSendCommand_eq (s : State) : execQspiSendCommand s = .next (returnOk
    (qspiLeft 0 (lanesAfterOut (cmdw s.qmode) (opByte s.opA) s.qio) (wireOut (cmdw s.qmode) (opByte s.opA)) s)) := by
  rw [execQspiSendCommand, txw_eq]

theorem txAddress_eq (w : Width) {n : Nat} (hn : n = 3 ∨ n = 4) (addr : Word) (s : State) :
    txAddress w n addr s = qspiLeft 0 (lanesAfterOut w (addr.extractLsb' 0 8) s.qio)
      ((addressBytes n addr).flatMap (wireOut w)) s := by
  rcases hn with rfl | rfl
  · exact txAddress_three w addr s
  · exact txAddress_four w addr s

theorem execQspiSendAddress_sent {s : State} (h : s.opB = 3#32 ∨ s.opB = 4#32) :
    execQspiSendAddress s = .next (returnOk (qspiLeft 0 (lanesAfterOut (addrw s.qmode) (s.opA.extractLsb' 0 8) s.qio)
      ((addressBytes s.opB.toNat s.opA).flatMap (wireOut (addrw s.qmode))) s)) := by
  have hn : s.opB.toNat = 3 ∨ s.opB.toNat = 4 := h.imp (congrArg BitVec.toNat) (congrArg BitVec.toNat)
  rw [execQspiSendAddress, if_neg (fun k => h.elim k.1 k.2), txAddress_eq _ hn]

theorem execQspiSendAddress_refused {s : State} (h : ¬ (s.opB = 3#32 ∨ s.opB = 4#32)) :
    execQspiSendAddress s = .next (returnFail s) := by
  rw [execQspiSendAddress, if_pos (not_or.mp h)]

theorem execQspiSendDummy_eq (s : State) : execQspiSendDummy s = .next (returnOk { s with
    qio := lanesAfterIn .four s.qio
    qclk := if s.opA.toNat = 0 then s.qclk else Pin.drive false
    trace := s.trace ++ List.replicate s.opA.toNat .z }) := by
  rw [execQspiSendDummy, dummyPulses_eq, releaseLanes_eq]

theorem execQspiWriteData_eq (s : State) : execQspiWriteData s = .next (returnOk
    (qspiLeft 0 (lanesAfterOut (dataw s.qmode) (opByte s.opA) s.qio) (wireOut (dataw s.qmode) (opByte s.opA)) s)) := by
  rw [execQspiWriteData, txw_eq]

theorem execQspiReadData_eq (s : State) : execQspiReadData s = .next (returnValue ((byteAt s).setWidth 32)
    (qspiLeft 8 (lanesAfterIn (dataw s.qmode) s.qio) (wireIn (dataw s.qmode) (byteAt s)) s)) := by
  rw [execQspiReadData, rxw_eq]

theorem execQspiTransfer_standard {s : State} (h : s.qmode = .standard) :
    execQspiTransfer s = .next (returnValue ((byteAt s).setWidth 32) (qspiLeft 8
      { s.qio with io0 := Pin.drive ((opByte s.opA).getLsbD 0), io1 := s.qio.io1.release }
      (wireDuplex (opByte s.opA) (byteAt s)) s)) := by
  rw [execQspiTransfer, if_neg (not_not_intro h), transferByte_eq]

theorem execQspiTransfer_refused {s : State} (h : s.qmode ≠ .standard) :
    execQspiTransfer s = .next (returnFail s) := by
  rw [execQspiTransfer, if_pos h]

/-- The byte goes out with the width of the temporary mode; the mode held before is not read (41_qspi.md R160, R161). -/
theorem switchMode_eq (temporary committed : Mode) (cmd : Byte) (s : State) :
    switchMode temporary committed cmd s = { qspiLeft 0 (lanesAfterOut (cmdw temporary) cmd s.qio)
      (wireOut (cmdw temporary) cmd) s with qmode := committed } := by
  rw [switchMode, txw_eq]
  rfl

/-! ## The QSPI engine: locality -/

theorem execQspiInit_local : Local .qspi execQspiInit := fun s =>
  ⟨⟨.qspi s.qmode (Pin.drive true) (Pin.drive false) (lanesAfterIn .four s.qio), 0, [.cs1], .value 0⟩, rfl,
    fun _ => by rw [run_qspi]; rfl⟩

theorem execQspiCsLow_local : Local .qspi execQspiCsLow := fun s =>
  ⟨⟨.qspi s.qmode (Pin.drive false) s.qclk s.qio, 0, [.cs0], .value 0⟩, rfl, fun _ => by rw [run_qspi]; rfl⟩

theorem execQspiCsHigh_local : Local .qspi execQspiCsHigh := fun s =>
  ⟨⟨.qspi s.qmode (Pin.drive true) s.qclk s.qio, 0, [.cs1], .value 0⟩, rfl, fun _ => by rw [run_qspi]; rfl⟩

theorem execQspiSetMode_local : Local .qspi execQspiSetMode := fun s => by
  rcases execQspiSetMode_cases s.opA with hf | ⟨m, hm⟩
  · exact ⟨⟨rowsOf s .qspi, 0, [], .fail⟩, rfl, fun f =>
      (hf (share .qspi s f) rfl).trans (congrArg _ (run_refused .qspi _).symm)⟩
  · refine ⟨⟨.qspi m s.qcs s.qclk s.qio, 0, [], .value 0⟩, rfl, fun f => ?_⟩
    rw [hm (share .qspi s f) rfl, run_qspi, List.append_nil]
    rfl

theorem execQspiGetMode_local : Local .qspi execQspiGetMode := fun s => by
  refine ⟨⟨rowsOf s .qspi, 0, [], .value (s.qmode.code.setWidth 32)⟩, rfl, fun f => ?_⟩
  rw [rowsOf, run_qspi, List.append_nil]
  rfl

theorem execQspiSendCommand_local : Local .qspi execQspiSendCommand := fun s =>
  ⟨⟨.qspi s.qmode s.qcs (Pin.drive false) (lanesAfterOut (cmdw s.qmode) (opByte s.opA) s.qio), 0,
    wireOut (cmdw s.qmode) (opByte s.opA), .value 0⟩, rfl, fun f => execQspiSendCommand_eq (share .qspi s f)⟩

theorem execQspiSendAddress_local : Local .qspi execQspiSendAddress := fun s => by
  by_cases h : s.opB = 3#32 ∨ s.opB = 4#32
  · exact ⟨⟨.qspi s.qmode s.qcs (Pin.drive false) (lanesAfterOut (addrw s.qmode) (s.opA.extractLsb' 0 8) s.qio), 0,
      (addressBytes s.opB.toNat s.opA).flatMap (wireOut (addrw s.qmode)), .value 0⟩, rfl,
      fun f => execQspiSendAddress_sent (s := share .qspi s f) h⟩
  · exact ⟨⟨rowsOf s .qspi, 0, [], .fail⟩, rfl,
      fun f => (execQspiSendAddress_refused (s := share .qspi s f) h).trans (congrArg _ (run_refused .qspi _).symm)⟩

theorem execQspiSendDummy_local : Local .qspi execQspiSendDummy := fun s =>
  ⟨⟨.qspi s.qmode s.qcs (if s.opA.toNat = 0 then s.qclk else Pin.drive false) (lanesAfterIn .four s.qio), 0,
    List.replicate s.opA.toNat .z, .value 0⟩, rfl,
    fun _ => by rw [execQspiSendDummy_eq, run_qspi]; rfl⟩

theorem execQspiWriteData_local : Local .qspi execQspiWriteData := fun s =>
  ⟨⟨.qspi s.qmode s.qcs (Pin.drive false) (lanesAfterOut (dataw s.qmode) (opByte s.opA) s.qio), 0,
    wireOut (dataw s.qmode) (opByte s.opA), .value 0⟩, rfl, fun f => execQspiWriteData_eq (share .qspi s f)⟩

theorem execQspiReadData_local : Local .qspi execQspiReadData := fun s =>
  ⟨⟨.qspi s.qmode s.qcs (Pin.drive false) (lanesAfterIn (dataw s.qmode) s.qio), 8,
    wireIn (dataw s.qmode) (byteAt s), .value ((byteAt s).setWidth 32)⟩, rfl,
    fun f => execQspiReadData_eq (share .qspi s f)⟩

theorem execQspiTransfer_local : Local .qspi execQspiTransfer := fun s => by
  by_cases h : s.qmode = .standard
  · exact ⟨⟨.qspi s.qmode s.qcs (Pin.drive false)
      { s.qio with io0 := Pin.drive ((opByte s.opA).getLsbD 0), io1 := s.qio.io1.release }, 8,
      wireDuplex (opByte s.opA) (byteAt s), .value ((byteAt s).setWidth 32)⟩, rfl,
      fun f => execQspiTransfer_standard (s := share .qspi s f) h⟩
  · exact ⟨⟨rowsOf s .qspi, 0, [], .fail⟩, rfl,
      fun f => (execQspiTransfer_refused (s := share .qspi s f) h).trans (congrArg _ (run_refused .qspi _).symm)⟩

theorem switchMode_local (temporary committed : Mode) (cmd : Byte) :
    Local .qspi fun s => Host.Outcome.next (returnOk (switchMode temporary committed cmd s)) := fun s =>
  ⟨⟨.qspi committed s.qcs (Pin.drive false) (lanesAfterOut (cmdw temporary) cmd s.qio), 0,
    wireOut (cmdw temporary) cmd, .value 0⟩, rfl,
    fun _ => by simp only [switchMode_eq]; rfl⟩

/-! ## The SWD engine -/

/-- A transaction or access whose whole course the environment alone decides: its result, the levels it takes, the line
it leaves and the events it adds. -/
def EnvDriven (f : State → Xfer) : Prop :=
  ∀ s, ∃ (ok : Bool) (data : Word) (n : Nat) (dio : Pin) (e : List Event),
    ∀ s', SameEnvironment s s' → f s' = { ok := ok, data := data, state := swdLeft n dio e s' }

theorem sameEnvironment_swdLeft (n : Nat) (dio : Pin) (e : List Event) {s s' : State} (h : SameEnvironment s s') :
    SameEnvironment (swdLeft n dio e s) (swdLeft n dio e s') := by
  obtain ⟨ha, hn⟩ := h
  simp [SameEnvironment, swdLeft, ha, hn]

/-- What the environment presents is the same in the same environment. -/
theorem presented_congr {s s' : State} (h : SameEnvironment s s') :
    ackAt s' = ackAt s ∧ wordAt s' = wordAt s ∧ parityAt s' = parityAt s := by
  have level (k : Nat) : levelAt s' k = levelAt s k := (levelAt_congr h.1 h.2 k).symm
  exact ⟨ofLevels_congr fun i _ => level i, ofLevels_congr fun i _ => level (3 + i), level 35⟩

/-- One transaction: not acknowledged, an acknowledged read, or an acknowledged write (42_swd.md R190). -/
theorem swdXfer_envDriven (h : Byte) (wdata : Word) : EnvDriven (swdXfer h wdata) := fun s => by
  cases ha : ackIsOk (ackAt s) with
  | false =>
    refine ⟨false, 0, 3, { dir := .input, out := h.getLsbD 7 }, abortedTrace h (ackAt s), fun s' hs => ?_⟩
    obtain ⟨hack, -, -⟩ := presented_congr hs
    rw [swdXfer_aborted h wdata s' (hack ▸ ha), leftAborted, hack]
  | true =>
    cases hr : h.getLsbD 2 with
    | true =>
      refine ⟨parityAt s == parity32 (wordAt s), if parityAt s = parity32 (wordAt s) then wordAt s else 0, 36,
        { dir := .input, out := h.getLsbD 7 }, readTrace h (wordAt s) (parityAt s), fun s' hs => ?_⟩
      obtain ⟨hack, hword, hpar⟩ := presented_congr hs
      rw [swdXfer_read h wdata s' hr (hack ▸ ha), leftRead, hword, hpar]
    | false =>
      refine ⟨true, 0, 3, Pin.drive (parity32 wdata), writeTrace h wdata, fun s' hs => ?_⟩
      obtain ⟨hack, -, -⟩ := presented_congr hs
      rw [swdXfer_write h wdata s' hr (hack ▸ ha), leftWritten]

/-- A sequence of cycles before an access leaves it driven by the environment. -/
theorem EnvDriven.after {f : State → Xfer} (hf : EnvDriven f) (n : Nat) (dio : Pin) (e : List Event) :
    EnvDriven fun s => f (swdLeft n dio e s) := fun s => by
  obtain ⟨ok, data, m, q, d, h⟩ := hf (swdLeft n dio e s)
  refine ⟨ok, data, n + m, q, e ++ d, fun s' hs => ?_⟩
  simp only [h _ (sameEnvironment_swdLeft n dio e hs), swdLeft_swdLeft]

/-- Two accesses in a row (42_swd.md R203, R204). -/
theorem EnvDriven.andThen {f g : State → Xfer} (hf : EnvDriven f) (hg : EnvDriven g) :
    EnvDriven fun s => (f s).andThen g := fun s => by
  obtain ⟨ok, data, n, dio, e, h⟩ := hf s
  cases ok with
  | false => exact ⟨false, 0, n, dio, e, fun s' hs => by simp [h s' hs, Xfer.andThen]⟩
  | true =>
    obtain ⟨ok', data', m, q, d, h'⟩ := hg.after n dio e s
    exact ⟨ok', data', m, q, d, fun s' hs => by simpa [h s' hs, Xfer.andThen] using h' s' hs⟩

/-- Bringing the line up and then an access (42_swd.md R200). -/
theorem EnvDriven.afterConnect {f : State → Xfer} (hf : EnvDriven f) (switch : BitVec 16) :
    EnvDriven fun s => f (swdConnect Config.swdResetClocks switch s) := by
  have hn : Config.swdResetClocks = 49 + Config.swdResetExtraClocks + 1 := by
    rw [Config.swdResetClocks]
    omega
  simpa only [hn, swdConnect_succ] using hf.after 0 (Pin.drive false) _

/-- The data of an access dropped, as `return OK` does (42_swd.md R202, R204). -/
theorem EnvDriven.withoutData {f : State → Xfer} (hf : EnvDriven f) :
    EnvDriven fun s => { f s with data := 0 } := fun s => by
  obtain ⟨ok, data, n, dio, e, h⟩ := hf s
  exact ⟨ok, 0, n, dio, e, fun s' hs => by simp only [h s' hs]⟩

theorem readAp_envDriven (apsel addr : Byte) : EnvDriven (readAp apsel addr) :=
  (swdXfer_envDriven _ _).andThen ((swdXfer_envDriven _ _).andThen (swdXfer_envDriven _ _))

theorem writeAp_envDriven (apsel addr : Byte) (wdata : Word) : EnvDriven (writeAp apsel addr wdata) :=
  (swdXfer_envDriven _ _).andThen (swdXfer_envDriven _ _)

/-- The operands choose the access, the environment its course, and its result is returned: of the unit's rows none is
read. -/
theorem Local.of_returnData {f : Word → Word → State → Xfer} (hf : ∀ a b, EnvDriven (f a b)) :
    Local .swd fun s => Host.Outcome.next (f s.opA s.opB s).returnData := fun s => by
  obtain ⟨ok, data, n, dio, e, h⟩ := hf s.opA s.opB s
  refine ⟨⟨.swd (Pin.drive false) dio, n, e, if ok then .value data else .fail⟩, rfl,
    fun f' => congrArg Host.Outcome.next ?_⟩
  have hx := congrArg Xfer.returnData (h (share .swd s f') ⟨rfl, rfl⟩)
  cases ok <;> exact hx

theorem execSwdTurnaround_local : Local .swd execSwdTurnaround := fun s =>
  ⟨⟨.swd (Pin.drive false) s.swdio.release, 0, [.swdZ], .value 0⟩, rfl,
    fun _ => by rw [execSwdTurnaround, turnAround_eq]; rfl⟩

theorem execSwdInit_local : Local .swd execSwdInit :=
  Local.of_returnData
    (f := fun _ _ s => swdXfer idcodeReadHeader 0 (swdConnect Config.swdResetClocks Config.swdJtag2Swd s))
    fun _ _ => (swdXfer_envDriven idcodeReadHeader 0).afterConnect Config.swdJtag2Swd

theorem execSwdReadDp_local : Local .swd execSwdReadDp :=
  Local.of_returnData fun a _ => swdXfer_envDriven (header false true (opDpAddr a)) 0

theorem execSwdWriteDp_local : Local .swd execSwdWriteDp :=
  Local.of_returnData fun a b => (swdXfer_envDriven (header false false (opDpAddr a)) b).withoutData

theorem execSwdReadAp_local : Local .swd execSwdReadAp :=
  Local.of_returnData fun a _ => readAp_envDriven (opApSel a) (opApAddr a)

theorem execSwdWriteAp_local : Local .swd execSwdWriteAp :=
  Local.of_returnData fun a b => (writeAp_envDriven (opApSel a) (opApAddr a) b).withoutData

/-! ## Every operation -/

/-- Every operation is local to its unit. -/
theorem exec_local : ∀ {i : Instr} {u : BlockUnit}, i.unit? = some u → Local u (exec i)
  | .crcInit, _, rfl => execCrcInit_local
  | .crcUpdate, _, rfl => execCrcUpdate_local
  | .crcFinal, _, rfl => execCrcFinal_local
  | .qspiInit, _, rfl => execQspiInit_local
  | .qspiCsLow, _, rfl => execQspiCsLow_local
  | .qspiCsHigh, _, rfl => execQspiCsHigh_local
  | .qspiSetMode, _, rfl => execQspiSetMode_local
  | .qspiGetMode, _, rfl => execQspiGetMode_local
  | .qspiSendCommand, _, rfl => execQspiSendCommand_local
  | .qspiSendAddress, _, rfl => execQspiSendAddress_local
  | .qspiSendDummy, _, rfl => execQspiSendDummy_local
  | .qspiWriteData, _, rfl => execQspiWriteData_local
  | .qspiReadData, _, rfl => execQspiReadData_local
  | .qspiTransfer, _, rfl => execQspiTransfer_local
  | .qspiEnterQpi, _, rfl => switchMode_local .standard .qpi Config.qpiEnterCmd
  | .qspiExitQpi, _, rfl => switchMode_local .qpi .standard Config.qpiExitCmd
  | .swdInit, _, rfl => execSwdInit_local
  | .swdReadDp, _, rfl => execSwdReadDp_local
  | .swdWriteDp, _, rfl => execSwdWriteDp_local
  | .swdReadAp, _, rfl => execSwdReadAp_local
  | .swdWriteAp, _, rfl => execSwdWriteAp_local
  | .swdTurnaround, _, rfl => execSwdTurnaround_local

/-- An operation has a unit. -/
theorem exists_unit {i : Instr} (h : i.isOperation = true) : ∃ u, i.unit? = some u := Option.isSome_iff_exists.mp h

end Sys2Proof.Machine

/-! The statements about the state as a whole: reset, STATUS and RES, the units, QMODE. -/

namespace Sys2Proof.Machine

/-- Settles O15: an operation does one effect, which its unit's rows, the operands and the environment decide. -/
theorem unitsShareNothing : Obligations.UnitsShareNothing := by
  intro i u s hu
  obtain ⟨x, rfl, hs, hs'⟩ := (exec_local hu).effect s
  refine ⟨⟨x.run s, hs, fun v hv => ?_, run_sameOperands x s, run_inbox x s⟩, fun s' hr ho he => ?_⟩
  · rw [sameRows_iff, rowsOf_run_other hv]
  · obtain ⟨hstatus, hres⟩ := run_status_res x s s'
    refine ⟨x.run s, x.run s', x.events, hs, hs' s' hr ho he, ?_, hstatus, hres, ?_, run_trace x s, run_trace x s'⟩
    · rw [sameRows_iff, rowsOf_run_same, rowsOf_run_same]
    · obtain ⟨ha, hn⟩ := he
      exact ⟨by rw [run_answers, run_answers, ha], by rw [run_sampleNo, run_sampleNo, ha, hn]⟩

/-- Settles O12: an operation's effect decides `STATUS` and `RES`, and does not depend on them. -/
theorem statusAndResultOfEveryOperation : Obligations.StatusAndResultOfEveryOperation := by
  refine ⟨fun s v => ⟨rfl, rfl, rfl⟩, fun i s st v hi => ?_, fun i s hi => ?_, rfl⟩
  · obtain ⟨u, hu⟩ := exists_unit hi
    obtain ⟨x, rfl, hs, hs'⟩ := (exec_local hu).effect s
    have hr : SameRows x.rows.unit s { s with status := st, res := v } := by
      rw [sameRows_iff]
      cases x.rows.unit <;> rfl
    rw [hs' _ hr ⟨rfl, rfl⟩ ⟨rfl, rfl⟩, run_withStatusRes, hs]
  · obtain ⟨u, hu⟩ := exists_unit hi
    obtain ⟨x, -, hs, -⟩ := (exec_local hu).effect s
    exact ⟨x.run s, hs, run_ends x s⟩

/-! ## QMODE (10_state.md R30) -/

/-- The operation leaves QMODE as it is. -/
def KeepsMode (op : Operation) : Prop := ∀ s, ∃ t, op s = .next t ∧ t.qmode = s.qmode

/-- In another mode the operation does the same, but for the mode it leaves. -/
def IgnoresMode (op : Operation) : Prop :=
  ∀ (s : State) (m : Mode), ∃ t t', op s = .next t ∧ op { s with qmode := m } = .next t'
    ∧ t = { t' with qmode := t.qmode }

/-- QMODE is a row of the QSPI engine: an effect of another unit neither writes it nor depends on it. -/
theorem run_withMode {x : Effect} (hx : x.rows.unit ≠ .qspi) (s : State) (m : Mode) :
    (x.run s).qmode = s.qmode ∧ x.run s = { x.run { s with qmode := m } with qmode := (x.run s).qmode } := by
  obtain ⟨rows, n, e, ending⟩ := x
  cases rows with
  | crc acc => cases ending <;> exact ⟨rfl, rfl⟩
  | qspi mode cs clk io => exact absurd rfl hx
  | swd clk dio => cases ending <;> exact ⟨rfl, rfl⟩

theorem sameRows_withMode {u : BlockUnit} (hu : u ≠ .qspi) (s : State) (m : Mode) :
    SameRows u s { s with qmode := m } := by
  cases u with
  | crc => rfl
  | qspi => exact absurd rfl hu
  | swd => exact ⟨rfl, rfl⟩

theorem Local.keepsMode {u : BlockUnit} {op : Operation} (h : Local u op) (hu : u ≠ .qspi) :
    KeepsMode op := fun s => by
  obtain ⟨x, rfl, hs, -⟩ := h.effect s
  exact ⟨x.run s, hs, (run_withMode hu s s.qmode).1⟩

theorem Local.ignoresMode {u : BlockUnit} {op : Operation} (h : Local u op)
    (hu : u ≠ .qspi) : IgnoresMode op := fun s m => by
  obtain ⟨x, rfl, hs, hs'⟩ := h.effect s
  exact ⟨x.run s, _, hs, hs' _ (sameRows_withMode hu s m) ⟨rfl, rfl⟩ ⟨rfl, rfl⟩, (run_withMode hu s m).2⟩

/-- The QSPI operations that keep the mode. -/
theorem execQspi_keepsMode {i : Instr} (hu : i.unit? = some .qspi)
    (hi : i ∉ [Instr.qspiSetMode, .qspiEnterQpi, .qspiExitQpi]) : KeepsMode (exec i) := by
  intro s
  cases i with
  | qspiInit => exact ⟨_, rfl, rfl⟩
  | qspiCsLow => exact ⟨_, rfl, rfl⟩
  | qspiCsHigh => exact ⟨_, rfl, rfl⟩
  | qspiGetMode => exact ⟨_, rfl, rfl⟩
  | qspiSendCommand => exact ⟨_, execQspiSendCommand_eq s, rfl⟩
  | qspiSendAddress =>
    by_cases h : s.opB = 3#32 ∨ s.opB = 4#32
    · exact ⟨_, execQspiSendAddress_sent h, rfl⟩
    · exact ⟨_, execQspiSendAddress_refused h, rfl⟩
  | qspiSendDummy => exact ⟨_, execQspiSendDummy_eq s, rfl⟩
  | qspiWriteData => exact ⟨_, execQspiWriteData_eq s, rfl⟩
  | qspiReadData => exact ⟨_, execQspiReadData_eq s, rfl⟩
  | qspiTransfer =>
    by_cases h : s.qmode = .standard
    · exact ⟨_, execQspiTransfer_standard h, rfl⟩
    · exact ⟨_, execQspiTransfer_refused h, rfl⟩
  | qspiSetMode | qspiEnterQpi | qspiExitQpi => exact absurd (by decide) hi
  | _ => cases hu

theorem switchMode_ignoresMode (temporary committed : Mode) (cmd : Byte) :
    IgnoresMode fun s => Host.Outcome.next (returnOk (switchMode temporary committed cmd s)) := fun s m =>
  ⟨_, _, rfl, rfl, by simp only [switchMode_eq]; rfl⟩

theorem execQspiSetMode_ignoresMode : IgnoresMode execQspiSetMode := fun s m => by
  rcases execQspiSetMode_cases s.opA with h | ⟨n, h⟩
  · exact ⟨_, _, h s rfl, h { s with qmode := m } rfl, rfl⟩
  · exact ⟨_, _, h s rfl, h { s with qmode := m } rfl, rfl⟩

/-- The QSPI operations that do not read the mode. -/
theorem execQspi_ignoresMode {i : Instr} (hu : i.unit? = some .qspi)
    (hi : i ∉ [Instr.qspiSendCommand, .qspiSendAddress, .qspiWriteData, .qspiReadData, .qspiTransfer, .qspiGetMode]) :
    IgnoresMode (exec i) := by
  cases i with
  | qspiInit => exact fun _ _ => ⟨_, _, rfl, rfl, rfl⟩
  | qspiCsLow => exact fun _ _ => ⟨_, _, rfl, rfl, rfl⟩
  | qspiCsHigh => exact fun _ _ => ⟨_, _, rfl, rfl, rfl⟩
  | qspiSetMode => exact execQspiSetMode_ignoresMode
  | qspiSendDummy => exact fun s _ => ⟨_, _, execQspiSendDummy_eq s, execQspiSendDummy_eq _, rfl⟩
  | qspiEnterQpi => exact switchMode_ignoresMode .standard .qpi Config.qpiEnterCmd
  | qspiExitQpi => exact switchMode_ignoresMode .qpi .standard Config.qpiExitCmd
  | qspiSendCommand | qspiSendAddress | qspiWriteData | qspiReadData | qspiTransfer | qspiGetMode =>
    exact absurd (by decide) hi
  | _ => cases hu

/-- Settles O34: outside the QSPI engine QMODE is another unit's row; inside it, each operation's own equation tells. -/
theorem modeIsWrittenAndReadByTheListed : Obligations.ModeIsWrittenAndReadByTheListed := by
  refine ⟨rfl, fun i s hop hi => ?_, fun i s m hop hi => ?_⟩
  · obtain ⟨u, hu⟩ := exists_unit hop
    by_cases hq : u = .qspi
    · exact execQspi_keepsMode (hq ▸ hu) hi s
    · exact (exec_local hu).keepsMode hq s
  · obtain ⟨u, hu⟩ := exists_unit hop
    by_cases hq : u = .qspi
    · exact execQspi_ignoresMode (hq ▸ hu) hi s m
    · exact (exec_local hu).ignoresMode hq s m

/-- Settles O1: the reset values, each as 10_state.md R40 gives it. -/
theorem resetLeavesTheSpecValues : Obligations.ResetLeavesTheSpecValues :=
  ⟨rfl, rfl, rfl, rfl, rfl, rfl, rfl, rfl, rfl, rfl, rfl, rfl⟩

end Sys2Proof.Machine

/-! The frame of the host protocol, offset by offset (20_memory.md R61, R62): the six bytes of the header, the payload, the
four bytes of the CRC. -/

namespace Sys2Proof.Machine

@[simp] theorem length_littleEndian32 (c : Word) : (littleEndian32 c).length = 4 := rfl

/-- The CRC input is `6 + L` bytes (R61). -/
@[simp] theorem length_frameCrcInput (sof : Byte) (p : Packet) :
    (frameCrcInput sof p).length = 6 + p.payload.length := by
  simp only [frameCrcInput, List.length_append, List.length_cons, List.length_nil]

theorem length_frame (sof : Byte) (p : Packet) : (frame sof p).length = 10 + p.payload.length := by
  rw [frame, List.length_append, length_frameCrcInput, length_littleEndian32]
  omega

/-- The CRC covers the offsets 0 to 5+L (R62). -/
theorem take_frame (sof : Byte) (p : Packet) : (frame sof p).take (6 + p.payload.length) = frameCrcInput sof p :=
  List.take_left' (length_frameCrcInput sof p)

/-- The payload stands between the header and the CRC, at the offsets 6 to 5+L (R61). -/
theorem drop_frame (sof : Byte) (p : Packet) :
    (frame sof p).drop 6 = p.payload ++ littleEndian32 (crc32 (frameCrcInput sof p)) := rfl

/-- Offset 6+j+L holds byte j of the CRC, the least significant byte first (R62). -/
theorem frame_getElem?_crc (sof : Byte) (p : Packet) (j : Nat) :
    (frame sof p)[6 + j + p.payload.length]? = (littleEndian32 (crc32 (frameCrcInput sof p)))[j]? := by
  have hj : 6 + j + p.payload.length = (frameCrcInput sof p).length + j := by
    rw [length_frameCrcInput]
    omega
  rw [hj, frame, List.getElem?_append_right (Nat.le_add_right _ _), Nat.add_sub_cancel_left]

/-- The two length bytes of the header are the bytes of the 16-bit length (R61). -/
theorem ofNat_lengthBytes (n : Nat) :
    BitVec.ofNat 8 n = (BitVec.ofNat 16 n).extractLsb' 0 8
      ∧ BitVec.ofNat 8 (n / 256) = (BitVec.ofNat 16 n).extractLsb' 8 8 := by
  have toNat_byte (k : Nat) : ((BitVec.ofNat 16 n).extractLsb' k 8).toNat = n % 65536 / 2 ^ k % 256 := by
    rw [BitVec.extractLsb'_toNat, BitVec.toNat_ofNat, Nat.shiftRight_eq_div_pow]
  constructor
  · apply BitVec.eq_of_toNat_eq
    rw [toNat_byte, BitVec.toNat_ofNat]
    omega
  · apply BitVec.eq_of_toNat_eq
    rw [toNat_byte, BitVec.toNat_ofNat]
    omega

/-- Settles O27: the header, the payload and the CRC, each at its offsets. -/
theorem frameLayout : Obligations.FrameLayout := by
  intro sof p hfits
  obtain ⟨hlow, hhigh⟩ := ofNat_lengthBytes p.payload.length
  have hpayload : ((frame sof p).drop 6).take p.payload.length = p.payload := by
    rw [drop_frame, List.take_left]
  have hinput : 6 ≤ (frameCrcInput sof p).length ∧ (frameCrcInput sof p).length ≤ 4102 := by
    rw [length_frameCrcInput]
    omega
  rw [take_frame]
  refine ⟨length_frame sof p, rfl, rfl, rfl, rfl, congrArg some hlow, congrArg some hhigh, hpayload, ?crc,
    hinput.1, hinput.2, rfl, rfl, rfl⟩
  case crc =>
    rintro c rfl
    have hcrc := frame_getElem?_crc sof p
    exact ⟨hcrc 0, hcrc 1, hcrc 2, hcrc 3⟩

end Sys2Proof.Machine

/-! The encodings (30_encoding.md): the request record and its operation code, the mode code, the address, the request
header, the SELECT value. -/

namespace Sys2Proof

/-! ## The operation code (30_encoding.md R80, R82, R84) -/

/-- A defined operation code stands for an operation, whose unit is the code's high nibble. -/
theorem unit_of_decodeOpcode_ok {c : Byte} {i : Instr} (h : decodeOpcode c = .ok i) :
    ∃ u, i.unit? = some u ∧ c.extractLsb' 4 4 = u.code := by
  unfold decodeOpcode at h
  split at h <;> cases h <;> exact ⟨_, rfl, rfl⟩

/-- The 22 defined operation codes (30_encoding.md R82). -/
def definedOpcodes : List Byte :=
  [0x01#8, 0x02#8, 0x03#8, 0x10#8, 0x11#8, 0x12#8, 0x13#8, 0x14#8, 0x15#8, 0x16#8, 0x17#8, 0x18#8, 0x19#8, 0x1A#8, 0x1B#8,
    0x1C#8, 0x20#8, 0x21#8, 0x22#8, 0x23#8, 0x24#8, 0x25#8]

theorem decodeOpcode_undefined {c : Byte} (h : c ∉ definedOpcodes) :
    decodeOpcode c = .error (.undefinedOpcode c) := by
  unfold decodeOpcode
  split
  case h_23 => rfl
  all_goals exact absurd (by decide) h

/-! ## The mode code (30_encoding.md R85) -/

@[simp] theorem Mode.ofCode?_code (m : Mode) : Mode.ofCode? m.code = some m := by
  cases m <;> rfl

end Sys2Proof

namespace Sys2Proof.Machine

/-- Settles O37: the equation of a sent address, its bytes written out for the two lengths; any other length is
refused. -/
theorem sendAddressEffect : Obligations.SendAddressEffect := by
  refine ⟨rfl, fun s => ⟨fun h => ?three, fun h => ?four, fun h3 h4 => ?refused⟩⟩
  case three =>
    refine (execQspiSendAddress_sent (.inl h)).trans ?_
    simp [h, addressBytes, returnOk, returnValue]
  case four =>
    refine (execQspiSendAddress_sent (.inr h)).trans ?_
    simp [h, addressBytes, returnOk, returnValue]
  case refused => exact execQspiSendAddress_refused (not_or.mpr ⟨h3, h4⟩)

/-- Settles O10: a record is its three fields, the decoder reads the first of them, and the codes are numbered by unit. -/
theorem requestFieldsAndUnits : Obligations.RequestFieldsAndUnits := by
  refine ⟨fun c a b => ⟨recordOpc_pack c a b, recordOpA_pack c a b, recordOpB_pack c a b⟩, pack_fields,
    fun _ _ h => congrArg decodeOpcode h, fun c i h => ?_⟩
  obtain ⟨u, hu, hc⟩ := unit_of_decodeOpcode_ok h
  cases u with
  | crc => exact .inl ⟨hc, hu⟩
  | qspi => exact .inr (.inl ⟨hc, hu⟩)
  | swd => exact .inr (.inr ⟨hc, hu⟩)

set_option maxRecDepth 2048 in
/-- Settles O11: outside the table of 22 codes the decoder names the code, and the port fails the request. -/
theorem undefinedOpcodeRefused : Obligations.UndefinedOpcodeRefused :=
  ⟨fun _ _ h => ⟨_, decodeOpcode_undefined h, rfl⟩, by decide⟩

/-! ## QSPI_SET_MODE (41_qspi.md R143) -/

/-- The mode code is all of the operand. -/
theorem opModeCode_code (m : Mode) : opModeCode (m.code.setWidth 32) = m.code := by
  cases m <;> rfl

theorem execQspiSetMode_code {m : Mode} {s : State} (h : s.opA = m.code.setWidth 32) :
    execQspiSetMode s = .next (returnOk (setMode m s)) := by
  have hlegal : ¬ m.code.setWidth 32 > 5#32 := by cases m <;> decide
  rw [execQspiSetMode, h, if_neg hlegal, opModeCode_code, Mode.ofCode?_code]

theorem execQspiSetMode_refused {s : State} (h : s.opA > 5#32) : execQspiSetMode s = .next (returnFail s) := by
  rw [execQspiSetMode, if_pos h]

/-- Settles O32: the operands 0 to 5 are the codes of the six modes. -/
theorem setModeEffect : Obligations.SetModeEffect := by
  have hcodes : ∀ p ∈ [(0#32, Mode.standard), (1#32, .dualOut), (2#32, .dualIo), (3#32, .quadOut), (4#32, .quadIo),
      (5#32, .qpi)], p.1 = p.2.code.setWidth 32 := by decide
  exact ⟨rfl, fun p hp s hs => execQspiSetMode_code (hs.trans (hcodes p hp)), fun s hs => execQspiSetMode_refused hs⟩

/-- Settles O35: the three widths, mode by mode. -/
theorem widthsPerMode : Obligations.WidthsPerMode := by
  unfold Obligations.WidthsPerMode
  decide

/-! ## The request header (30_encoding.md R91, R92) -/

/-- The fields of a header byte (R91). -/
theorem headerBits_fields (apndp rnw a2 a3 parity : Level) :
    let h := headerBits apndp rnw a2 a3 parity
    h.getLsbD 0 = true ∧ h.getLsbD 1 = apndp ∧ h.getLsbD 2 = rnw ∧ h.getLsbD 3 = a2 ∧ h.getLsbD 4 = a3
      ∧ h.getLsbD 5 = parity ∧ h.getLsbD 6 = false ∧ h.getLsbD 7 = true := by
  revert apndp rnw a2 a3 parity
  decide

theorem popcount_headerBits (apndp rnw a2 a3 parity : Level) :
    popcount ((headerBits apndp rnw a2 a3 parity).extractLsb' 1 5)
      = bitNat apndp + bitNat rnw + bitNat a2 + bitNat a3 + bitNat parity := by
  obtain ⟨-, h1, h2, h3, h4, h5, -, -⟩ := headerBits_fields apndp rnw a2 a3 parity
  simp [popcount, loop, -BitVec.getLsbD_eq_getElem, h1, h2, h3, h4, h5]

/-- The parity as a number (R92). -/
theorem bitNat_headerParity (apndp rnw a2 a3 : Level) :
    bitNat (headerParity apndp rnw a2 a3) = (bitNat apndp + bitNat rnw + bitNat a2 + bitNat a3) % 2 := by
  rcases Nat.mod_two_eq_zero_or_one (bitNat apndp + bitNat rnw + bitNat a2 + bitNat a3) with h | h <;>
    rw [headerParity, h] <;> rfl

/-- Settles O46: the fields are those of the header byte, the parity makes the ones even, a header is sent by its bits in
order; the sixteen values by evaluation. -/
theorem requestHeaders : Obligations.RequestHeaders := by
  refine ⟨fun ap rd a => ⟨?fields, ?even⟩, fun h s => ?sent, ?values⟩
  case fields =>
    obtain ⟨h0, h1, h2, h3, h4, h5, h6, h7⟩ :=
      headerBits_fields ap rd (a.getLsbD 0) (a.getLsbD 1) (headerParity ap rd (a.getLsbD 0) (a.getLsbD 1))
    exact ⟨h0, h1, h2, h3, h4, (congrArg bitNat h5).trans (bitNat_headerParity _ _ _ _), h6, h7⟩
  case even =>
    rw [header, popcount_headerBits, bitNat_headerParity]
    omega
  case sent =>
    rw [sendHeader_eq, swdLeft_trace]
    rfl
  case values =>
    simp only [List.forall_mem_cons, List.not_mem_nil, false_implies, implies_true, and_true]
    decide

/-! ## The SELECT value (30_encoding.md R97) -/

/-- Where each bit of the SELECT value comes from. -/
theorem getLsbD_selectValue (apsel addr : Byte) {j : Nat} (hj : j < 32) :
    (selectValue apsel addr).getLsbD j
      = if 24 ≤ j then apsel.getLsbD (j - 24) else decide (4 ≤ j ∧ j < 8) && addr.getLsbD j := by
  have mask : ∀ k < 24, (0xF0#8).getLsbD k = decide (4 ≤ k ∧ k < 8) := by decide
  rw [selectValue, BitVec.getLsbD_or, BitVec.getLsbD_shiftLeft, BitVec.getLsbD_setWidth, BitVec.getLsbD_setWidth,
    BitVec.getLsbD_and]
  by_cases h : 24 ≤ j
  · have hout : addr.getLsbD j = false := BitVec.getLsbD_of_ge addr j (by omega)
    have hin : j - 24 < 32 := by omega
    simp [h, hj, hout, hin]
  · rw [mask j (by omega), if_neg h]
    simp [hj, Bool.and_comm, Nat.lt_of_not_le h]

/-- Settles O47: the three fields, bit by bit. -/
theorem selectValueFields : Obligations.SelectValueFields := by
  intro apsel addr
  have slice (k n i : Nat) (hi : i < n) (hk : k + n ≤ 32) :
      ((selectValue apsel addr).extractLsb' k n).getLsbD i
        = if 24 ≤ k + i then apsel.getLsbD (k + i - 24) else decide (4 ≤ k + i ∧ k + i < 8) && addr.getLsbD (k + i) := by
    rw [BitVec.getLsbD_extractLsb', decide_eq_true hi, Bool.true_and, getLsbD_selectValue _ _ (by omega)]
  refine ⟨rfl, ?apsel, ?bank, ?middle, ?low⟩
  all_goals
    apply BitVec.eq_of_getLsbD_eq
    intro i hi
    rw [slice _ _ i hi (by decide)]
  case apsel =>
    rw [if_pos (Nat.le_add_right 24 i), Nat.add_sub_cancel_left]
  case bank =>
    rw [if_neg (by omega), decide_eq_true (by omega)]
    simp [hi]
  case middle | low =>
    rw [if_neg (by omega), decide_eq_false (by omega)]
    simp

end Sys2Proof.Machine

/-! The CRC unit (40_crc.md): the table and its generator, the function byte by byte, the three operations. -/

namespace Sys2Proof.Machine

/-! ## The low byte of a word -/

/-- The low byte as a table index is the mask `& 0xFF` (40_crc.md R110). -/
theorem toNat_setWidth_byte (w : Word) : (w.setWidth 8).toNat = (w &&& 0xFF#32).toNat := by
  rw [BitVec.toNat_setWidth, BitVec.toNat_and]
  exact (Nat.and_two_pow_sub_one_eq_mod w.toNat 8).symm

/-- The byte operand is `OP_A & 0xFF`: `OP_A[31:8]` is ignored (40_crc.md R116). -/
theorem setWidth_opByte (opA : Word) : (opByte opA).setWidth 32 = opA &&& 0xFF#32 := by
  apply BitVec.eq_of_toNat_eq
  rw [BitVec.toNat_setWidth_of_le (by decide), opByte, ← BitVec.setWidth_eq_extractLsb' (by decide), toNat_setWidth_byte]

/-! ## The table (40_crc.md R113) -/

set_option maxRecDepth 4096 in
/-- The constant, entry by entry, is what the generator computes: the one evaluation of the table. -/
theorem crcTable_eq_map_crcGenerated :
    crcTable = (List.range 256).map fun i => crcGenerated (BitVec.ofNat 8 i) := by
  decide

theorem length_crcTable : crcTable.length = 256 := by
  rw [crcTable_eq_map_crcGenerated, List.length_map, List.length_range]

theorem crcEntry_eq_crcGenerated (i : Byte) : crcEntry i = crcGenerated i := by
  rw [crcEntry, crcTable_eq_map_crcGenerated, List.getD_eq_getElem?_getD, List.getElem?_map,
    List.getElem?_range i.isLt, Option.map_some, Option.getD_some, BitVec.ofNat_toNat, BitVec.setWidth_eq]

/-- Settles O18: the table is the list of the generator's values, read at any index. -/
theorem crcTableIsGenerated : Obligations.CrcTableIsGenerated :=
  ⟨length_crcTable, crcEntry_eq_crcGenerated⟩

/-! ## The step and the function (40_crc.md R110 to R112) -/

/-- The step with its index as R112 writes it. -/
theorem crcStep_eq (acc : Word) (b : Byte) :
    crcStep acc b = (acc >>> 8) ^^^ crcTable.getD ((acc ^^^ b.setWidth 32) &&& 0xFF#32).toNat 0#32 := by
  rw [crcStep, crcEntry, toNat_setWidth_byte]
  rfl

theorem crcFold_concat (acc : Word) (m : List Byte) (b : Byte) :
    crcFold acc (m ++ [b]) = crcStep (crcFold acc m) b := by
  rw [crcFold_append, crcFold_cons, crcFold_nil]

/-- A byte more is one step under the final exclusive or. -/
theorem crc32_concat (m : List Byte) (b : Byte) :
    crc32 (m ++ [b]) = crcStep (crc32 m ^^^ Config.crcXorOut) b ^^^ Config.crcXorOut := by
  rw [crc32, crcFold_concat, crcFold_of_crc32]

/-- Settles O17: the sequence grows at its end, where `crc32` undoes the final exclusive or and takes one step. -/
theorem crcFunction : Obligations.CrcFunction :=
  ⟨rfl, fun m b => (crc32_concat m b).trans (congrArg (· ^^^ Config.crcXorOut) (crcStep_eq _ b))⟩

theorem topByte_ushiftRight_eight (w : Word) : (w >>> 8).extractLsb' 24 8 = 0#8 := by
  apply BitVec.eq_of_getLsbD_eq
  intro i hi
  rw [BitVec.getLsbD_extractLsb', BitVec.getLsbD_ushiftRight, BitVec.getLsbD_of_ge w _ (by omega), Bool.and_false,
    BitVec.getLsbD_zero]

/-- The shifted accumulator has no top byte, so the step's is the table entry's (R112). -/
theorem topByte_crcStep (acc : Word) (b : Byte) :
    (crcStep acc b).extractLsb' 24 8
      = (crcTable.getD ((acc ^^^ b.setWidth 32) &&& 0xFF#32).toNat 0#32).extractLsb' 24 8 := by
  rw [crcStep_eq, BitVec.extractLsb'_xor, topByte_ushiftRight_eight, BitVec.zero_xor]

/-! ## The operations (40_crc.md R115 to R117) -/

/-- On a freshly initialised accumulator the final exclusive or gives 0, the CRC of the empty sequence (R115). -/
theorem execCrcFinal_of_init {s : State} (h : s.crcAcc = Config.crcInitValue) :
    execCrcFinal s = .next (returnOk s) := by
  have hzero : Config.crcInitValue ^^^ Config.crcXorOut = 0 := BitVec.xor_self
  rw [execCrcFinal, h, hzero, returnOk]

/-- Settles O20: `CRC_INIT` reads nothing it writes, and the two constants of R111 cancel. -/
theorem crcInitEffect : Obligations.CrcInitEffect :=
  ⟨rfl, fun _ => ⟨rfl, rfl, execCrcFinal_of_init rfl⟩⟩

theorem execCrcUpdate_eq (s : State) : execCrcUpdate s = .next (returnOk { s with
    crcAcc := (s.crcAcc >>> 8) ^^^ crcTable.getD ((s.crcAcc ^^^ (s.opA &&& 0xFF#32)) &&& 0xFF#32).toNat 0#32 }) := by
  rw [execCrcUpdate, crcStep_eq, setWidth_opByte]

/-- Settles O21: the step at the byte operand, its top byte, and R116's two cases by evaluation. -/
theorem crcUpdateEffect : Obligations.CrcUpdateEffect :=
  ⟨rfl, execCrcUpdate_eq, topByte_crcStep, by decide, by decide⟩

/-- Settles O22: the operation returns a value and updates no row (R117). -/
theorem crcFinalEffect : Obligations.CrcFinalEffect :=
  ⟨rfl, fun _ => rfl, by decide⟩

end Sys2Proof.Machine

/-! The QSPI engine (41_qspi.md): the effect of each operation, the chip select that only the caller moves, and buffers as
sequences of bytes. -/

namespace Sys2Proof.Machine

/-! ## Set-up operations (41_qspi.md R140 to R144) -/

/-- Where `QSPI_INIT` leaves the machine. -/
theorem execQspiInit_eq (s : State) : execQspiInit s = .next { s with
    qcs := Pin.drive true
    qclk := Pin.drive false
    qio := lanesAfterIn .four s.qio
    trace := s.trace ++ [.cs1]
    res := 0#32
    status := 0#1 } := by
  rw [execQspiInit, releaseLanes_eq]
  rfl

/-- Settles O29: the second issue finds the pins as it leaves them, and adds its event. -/
theorem qspiInitEffect : Obligations.QspiInitEffect :=
  ⟨rfl, fun s => ⟨_, execQspiInit_eq s, rfl, execQspiInit_eq _⟩⟩

/-- Settles O30: the select pin is driven and its event emitted, whatever the pin was before. -/
theorem chipSelectEffect : Obligations.ChipSelectEffect :=
  ⟨rfl, rfl, fun _ => ⟨rfl, rfl⟩⟩

/-- Settles O33: the value returned is the code of the mode held; the six codes by evaluation. -/
theorem getModeEffect : Obligations.GetModeEffect := by
  have hcodes : ∀ p ∈ [(0#32, Mode.standard), (1#32, .dualOut), (2#32, .dualIo), (3#32, .quadOut), (4#32, .quadIo),
      (5#32, .qpi)], p.2.code.setWidth 32 = p.1 := by decide
  refine ⟨rfl, fun p hp s hs => ?_⟩
  rw [← hcodes p hp, ← hs]
  rfl

/-! ## Phase operations (41_qspi.md R150 to R155) -/

/-- The command is one bit wide outside QPI (30_encoding.md R86). -/
theorem cmdw_of_ne_qpi {m : Mode} (h : m ≠ .qpi) : cmdw m = .one := by
  cases m with
  | qpi => exact absurd rfl h
  | standard | dualOut | dualIo | quadOut | quadIo => rfl

/-- The data widths of the six modes (30_encoding.md R86). -/
theorem dataw_of_mem : ∀ p ∈ [(Mode.standard, Width.one), (.dualOut, .two), (.dualIo, .two), (.quadOut, .four),
    (.quadIo, .four), (.qpi, .four)], dataw p.1 = p.2 := by
  decide

/-- Settles O36: the equation of a sent command, at the width of the mode. -/
theorem sendCommandEffect : Obligations.SendCommandEffect := by
  refine ⟨rfl, fun s => ⟨fun h => ?oneLane, fun h => ?fourLanes⟩⟩
  case oneLane =>
    refine (execQspiSendCommand_eq s).trans ?_
    rw [cmdw_of_ne_qpi h]
    rfl
  case fourLanes =>
    refine (execQspiSendCommand_eq s).trans ?_
    rw [h]
    rfl

/-- Settles O38: the lanes are released and the pulses follow; the count is 0 exactly when the operand is. -/
theorem sendDummyEffect : Obligations.SendDummyEffect := by
  refine ⟨rfl, fun s => ?_⟩
  have hzero : s.opA.toNat = 0 ↔ s.opA = 0#32 := BitVec.toNat_inj (y := 0#32)
  refine (execQspiSendDummy_eq s).trans ?_
  simp only [hzero]
  rfl

/-- Settles O39: the equation of a written byte, at the width of the mode. -/
theorem writeDataEffect : Obligations.WriteDataEffect := by
  refine ⟨rfl, fun s p hp hs => ?_⟩
  rw [← dataw_of_mem p hp, ← hs]
  exact execQspiWriteData_eq s

/-- Settles O40: the equation of a read byte, at the width of the mode. -/
theorem readDataEffect : Obligations.ReadDataEffect := by
  refine ⟨rfl, fun s p hp hs => ?_⟩
  rw [← dataw_of_mem p hp, ← hs]
  exact execQspiReadData_eq s

/-- Bit 0 of the byte operand is bit 0 of `OP_A` (30_encoding.md R83). -/
theorem opByte_bit_zero (opA : Word) : (opByte opA).getLsbD 0 = opA.getLsbD 0 := by
  rw [opByte, BitVec.getLsbD_extractLsb', decide_eq_true (by decide), Bool.true_and]

/-- Settles O41: the equation of a byte transferred in `STANDARD`; every other mode refuses. -/
theorem transferEffect : Obligations.TransferEffect := by
  refine ⟨rfl, fun s => ⟨fun h => ?transferred, execQspiTransfer_refused⟩⟩
  case transferred =>
    rw [← opByte_bit_zero]
    exact execQspiTransfer_standard h

/-! ## QPI entry and exit (41_qspi.md R160, R161) -/

/-- `QPI_ENTER_CMD` bit by bit on one lane (30_encoding.md R87, R102). -/
theorem wireOut_qpiEnterCmd : wireOut .one Config.qpiEnterCmd =
    [.w1 false, .w1 false, .w1 true, .w1 true, .w1 true, .w1 false, .w1 false, .w1 false] := by
  decide

/-- `QPI_EXIT_CMD` on four lanes: two nibbles of ones (30_encoding.md R89, R102). -/
theorem wireOut_qpiExitCmd : wireOut .four Config.qpiExitCmd = [.w4 0xF#4, .w4 0xF#4] := by
  decide

/-- Settles O42: the byte is sent at the width of the temporary mode, and the mode before is lost. -/
theorem enterAndExitQpiEffect : Obligations.EnterAndExitQpiEffect := by
  refine ⟨rfl, rfl, fun s => ⟨?enter, ?exit⟩⟩
  case enter =>
    rw [← wireOut_qpiEnterCmd]
    exact congrArg (fun t => Host.Outcome.next (returnOk t)) (switchMode_eq .standard .qpi Config.qpiEnterCmd s)
  case exit =>
    rw [← wireOut_qpiExitCmd]
    exact congrArg (fun t => Host.Outcome.next (returnOk t)) (switchMode_eq .qpi .standard Config.qpiExitCmd s)

/-! ## Nothing else changes QCS (41_qspi.md R166) -/

/-- From `s` to `t` the chip select stands still: its pin is as before, and no event added is a select event. -/
def KeepsSelect (s t : State) : Prop :=
  t.qcs = s.qcs ∧ ∃ e, t.trace = s.trace ++ e ∧ ∀ x ∈ e, x.isSelect = false

theorem KeepsSelect.trans {s t u : State} (h : KeepsSelect s t) (k : KeepsSelect t u) : KeepsSelect s u := by
  obtain ⟨hcs, d, hd, hn⟩ := h
  obtain ⟨kcs, e, he, kn⟩ := k
  refine ⟨kcs.trans hcs, d ++ e, ?_, fun x hx => (List.mem_append.mp hx).elim (hn x) (kn x)⟩
  rw [he, hd, List.append_assoc]

theorem KeepsSelect.returnValue {s t : State} (h : KeepsSelect s t) (v : Word) : KeepsSelect s (returnValue v t) := h

theorem KeepsSelect.returnOk {s t : State} (h : KeepsSelect s t) : KeepsSelect s (returnOk t) := h

theorem KeepsSelect.returnFail {s t : State} (h : KeepsSelect s t) : KeepsSelect s (returnFail t) := h

/-- Nothing is added to the trace, and the select pin is not written. -/
theorem keepsSelect_of_silent {s t : State} (hcs : t.qcs = s.qcs) (ht : t.trace = s.trace) : KeepsSelect s t :=
  ⟨hcs, [], by rw [ht, List.append_nil], fun _ hx => absurd hx List.not_mem_nil⟩

theorem isSelect_of_isPulse {x : Event} (h : x.isPulse = true) : x.isSelect = false := by
  rw [Event.isPulse, Bool.and_eq_true, Bool.not_eq_true', Bool.not_eq_true'] at h
  exact h.2

theorem isSelect_of_isSwd {x : Event} (h : x.isSwd = true) : x.isSelect = false := by
  cases x with
  | h | t | swdZ => rfl
  | _ => cases h

/-! ### The QSPI engine: every event of a phase is a pulse -/

theorem keepsSelect_qspiLeft {e : List Event} (he : ∀ x ∈ e, x.isPulse = true) (n : Nat) (q : Lanes) (s : State) :
    KeepsSelect s (qspiLeft n q e s) :=
  ⟨rfl, e, rfl, fun x hx => isSelect_of_isPulse (he x hx)⟩

theorem isPulse_of_mem_wireOut (w : Width) (b : Byte) : ∀ x ∈ wireOut w b, x.isPulse = true := by
  cases w <;> simp [wireOut, wire1, wire2, wire4, Event.isPulse, Event.isSwd, Event.isSelect]

theorem isPulse_of_mem_wireIn (w : Width) (b : Byte) : ∀ x ∈ wireIn w b, x.isPulse = true := by
  cases w <;> simp [wireIn, Event.isPulse, Event.isSwd, Event.isSelect]

theorem isPulse_of_mem_wireDuplex (o i : Byte) : ∀ x ∈ wireDuplex o i, x.isPulse = true := by
  simp [wireDuplex, Event.isPulse, Event.isSwd, Event.isSelect]

theorem isPulse_of_mem_flatMap_wireOut (w : Width) (m : List Byte) : ∀ x ∈ m.flatMap (wireOut w), x.isPulse = true := by
  intro x hx
  obtain ⟨b, -, hb⟩ := List.mem_flatMap.mp hx
  exact isPulse_of_mem_wireOut w b x hb

/-- An operation that completes with the chip select standing still. -/
def LeavesSelect (op : Operation) : Prop := ∀ s, ∃ t, op s = .next t ∧ KeepsSelect s t

theorem execQspiSetMode_leavesSelect : LeavesSelect execQspiSetMode := fun s => by
  rcases execQspiSetMode_cases s.opA with h | ⟨m, h⟩
  · exact ⟨_, h s rfl, keepsSelect_of_silent rfl rfl⟩
  · exact ⟨_, h s rfl, keepsSelect_of_silent rfl rfl⟩

theorem execQspiSendCommand_leavesSelect : LeavesSelect execQspiSendCommand := fun s =>
  ⟨_, execQspiSendCommand_eq s, (keepsSelect_qspiLeft (isPulse_of_mem_wireOut _ _) _ _ s).returnOk⟩

theorem execQspiSendAddress_leavesSelect : LeavesSelect execQspiSendAddress := fun s => by
  by_cases h : s.opB = 3#32 ∨ s.opB = 4#32
  · exact ⟨_, execQspiSendAddress_sent h, (keepsSelect_qspiLeft (isPulse_of_mem_flatMap_wireOut _ _) _ _ s).returnOk⟩
  · exact ⟨_, execQspiSendAddress_refused h, keepsSelect_of_silent rfl rfl⟩

theorem execQspiSendDummy_leavesSelect : LeavesSelect execQspiSendDummy := fun s =>
  ⟨_, execQspiSendDummy_eq s, rfl, _, rfl, fun _ hx => congrArg Event.isSelect (List.eq_of_mem_replicate hx)⟩

theorem execQspiWriteData_leavesSelect : LeavesSelect execQspiWriteData := fun s =>
  ⟨_, execQspiWriteData_eq s, (keepsSelect_qspiLeft (isPulse_of_mem_wireOut _ _) _ _ s).returnOk⟩

theorem execQspiReadData_leavesSelect : LeavesSelect execQspiReadData := fun s =>
  ⟨_, execQspiReadData_eq s, (keepsSelect_qspiLeft (isPulse_of_mem_wireIn _ _) _ _ s).returnValue _⟩

theorem execQspiTransfer_leavesSelect : LeavesSelect execQspiTransfer := fun s => by
  by_cases h : s.qmode = .standard
  · exact ⟨_, execQspiTransfer_standard h, (keepsSelect_qspiLeft (isPulse_of_mem_wireDuplex _ _) _ _ s).returnValue _⟩
  · exact ⟨_, execQspiTransfer_refused h, keepsSelect_of_silent rfl rfl⟩

theorem switchMode_keepsSelect (temporary committed : Mode) (cmd : Byte) (s : State) :
    KeepsSelect s (switchMode temporary committed cmd s) := by
  rw [switchMode_eq]
  exact keepsSelect_qspiLeft (isPulse_of_mem_wireOut _ _) 0 (lanesAfterOut (cmdw temporary) cmd s.qio) s

theorem txw_keepsSelect (w : Width) (b : Byte) (s : State) : KeepsSelect s (txw w b s) := by
  rw [txw_eq]
  exact keepsSelect_qspiLeft (isPulse_of_mem_wireOut _ _) _ _ s

/-! ### The SWD engine: every event of a sequence is a cycle -/

theorem keepsSelect_swdLeft {e : List Event} (he : ∀ x ∈ e, x.isSwd = true) (n : Nat) (dio : Pin) (s : State) :
    KeepsSelect s (swdLeft n dio e s) :=
  ⟨rfl, e, rfl, fun x hx => isSelect_of_isSwd (he x hx)⟩

theorem isSwd_of_mem_hostBits {w : Nat} (v : BitVec w) (n : Nat) : ∀ x ∈ hostBits v n, x.isSwd = true := by
  simp [hostBits, Event.isSwd]

theorem isSwd_of_mem_targetBits {w : Nat} (v : BitVec w) (n : Nat) : ∀ x ∈ targetBits v n, x.isSwd = true := by
  simp [targetBits, Event.isSwd]

theorem isSwd_of_mem_abortedTrace (h : Byte) (ack : BitVec 3) : ∀ x ∈ abortedTrace h ack, x.isSwd = true := by
  simp [abortedTrace, hostBits, targetBits, or_imp, forall_and, Event.isSwd]

theorem isSwd_of_mem_readTrace (h : Byte) (data : Word) (p : Level) : ∀ x ∈ readTrace h data p, x.isSwd = true := by
  simp [readTrace, hostBits, targetBits, or_imp, forall_and, Event.isSwd]

theorem isSwd_of_mem_writeTrace (h : Byte) (wdata : Word) : ∀ x ∈ writeTrace h wdata, x.isSwd = true := by
  simp [writeTrace, hostBits, targetBits, or_imp, forall_and, Event.isSwd]

theorem isSwd_of_mem_connectTrace (n : Nat) (switch : BitVec 16) : ∀ x ∈ connectTrace n switch, x.isSwd = true := by
  simp [connectTrace, hostBits, or_imp, forall_and, Event.isSwd]

/-- The three ends of a transaction (42_swd.md R190). -/
theorem swdXfer_keepsSelect (h : Byte) (wdata : Word) (s : State) : KeepsSelect s (swdXfer h wdata s).state := by
  cases ha : ackIsOk (ackAt s) with
  | false =>
    rw [swdXfer_aborted h wdata s ha]
    exact keepsSelect_swdLeft (isSwd_of_mem_abortedTrace _ _) _ _ s
  | true =>
    cases hr : h.getLsbD 2 with
    | true =>
      rw [swdXfer_read h wdata s hr ha]
      exact keepsSelect_swdLeft (isSwd_of_mem_readTrace _ _ _) _ _ s
    | false =>
      rw [swdXfer_write h wdata s hr ha]
      exact keepsSelect_swdLeft (isSwd_of_mem_writeTrace _ _) _ _ s

theorem KeepsSelect.andThen {s : State} {x : Xfer} {rest : State → Xfer} (hx : KeepsSelect s x.state)
    (hrest : ∀ t, KeepsSelect t (rest t).state) : KeepsSelect s (x.andThen rest).state := by
  rw [Xfer.andThen]
  split
  · exact hx.trans (hrest x.state)
  · exact hx

theorem KeepsSelect.returnData {s : State} {x : Xfer} (hx : KeepsSelect s x.state) : KeepsSelect s x.returnData := by
  rw [Xfer.returnData]
  split
  · exact hx.returnValue _
  · exact hx.returnFail

theorem KeepsSelect.returnDone {s : State} {x : Xfer} (hx : KeepsSelect s x.state) : KeepsSelect s x.returnDone := by
  rw [Xfer.returnDone]
  split
  · exact hx.returnOk
  · exact hx.returnFail

theorem readAp_keepsSelect (apsel addr : Byte) (s : State) : KeepsSelect s (readAp apsel addr s).state :=
  (swdXfer_keepsSelect _ _ s).andThen fun t => (swdXfer_keepsSelect _ _ t).andThen (swdXfer_keepsSelect _ _)

theorem writeAp_keepsSelect (apsel addr : Byte) (wdata : Word) (s : State) :
    KeepsSelect s (writeAp apsel addr wdata s).state :=
  (swdXfer_keepsSelect _ _ s).andThen (swdXfer_keepsSelect _ _)

theorem swdConnect_keepsSelect (switch : BitVec 16) (s : State) :
    KeepsSelect s (swdConnect Config.swdResetClocks switch s) := by
  have hn : Config.swdResetClocks = 49 + Config.swdResetExtraClocks + 1 := by
    rw [Config.swdResetClocks]
    omega
  rw [hn, swdConnect_succ]
  exact keepsSelect_swdLeft (isSwd_of_mem_connectTrace _ _) _ _ s

theorem turnAround_keepsSelect (s : State) : KeepsSelect s (turnAround s) := by
  rw [turnAround_eq]
  exact keepsSelect_swdLeft (by simp [Event.isSwd]) _ _ s

theorem sendHeader_keepsSelect (h : Byte) (s : State) : KeepsSelect s (sendHeader h s) := by
  rw [sendHeader_eq]
  exact keepsSelect_swdLeft (isSwd_of_mem_hostBits _ _) _ _ s

theorem presentAck_keepsSelect (ack : BitVec 3) (s : State) : KeepsSelect s (presentAck ack s) := by
  rw [presentAck_eq]
  split
  · exact keepsSelect_swdLeft (isSwd_of_mem_targetBits _ _) _ _ s
  · exact (keepsSelect_swdLeft (by simp [targetBits, or_imp, forall_and, Event.isSwd]) _ _ s).returnFail

/-! ### Every instruction -/

theorem exec_leavesSelect {i : Instr} (hi : i ∉ [Instr.qspiInit, .qspiCsLow, .qspiCsHigh]) : LeavesSelect (exec i) := by
  intro s
  cases i with
  | qspiInit | qspiCsLow | qspiCsHigh => exact absurd (by decide) hi
  | crcInit | crcUpdate | crcFinal | qspiGetMode | qmodeStandard | qmodeDualOut | qmodeDualIo | qmodeQuadOut
  | qmodeQuadIo | qmodeQpi => exact ⟨_, rfl, keepsSelect_of_silent rfl rfl⟩
  | qspiSetMode => exact execQspiSetMode_leavesSelect s
  | qspiSendCommand => exact execQspiSendCommand_leavesSelect s
  | qspiSendAddress => exact execQspiSendAddress_leavesSelect s
  | qspiSendDummy => exact execQspiSendDummy_leavesSelect s
  | qspiWriteData => exact execQspiWriteData_leavesSelect s
  | qspiReadData => exact execQspiReadData_leavesSelect s
  | qspiTransfer => exact execQspiTransfer_leavesSelect s
  | qspiEnterQpi | qspiExitQpi => exact ⟨_, rfl, (switchMode_keepsSelect _ _ _ s).returnOk⟩
  | swdInit =>
    exact ⟨_, rfl, ((swdConnect_keepsSelect Config.swdJtag2Swd s).trans (swdXfer_keepsSelect _ _ _)).returnData⟩
  | swdReadDp => exact ⟨_, rfl, (swdXfer_keepsSelect _ _ s).returnData⟩
  | swdWriteDp => exact ⟨_, rfl, (swdXfer_keepsSelect _ _ s).returnDone⟩
  | swdReadAp => exact ⟨_, rfl, (readAp_keepsSelect _ _ s).returnData⟩
  | swdWriteAp => exact ⟨_, rfl, (writeAp_keepsSelect _ _ _ s).returnDone⟩
  | swdTurnaround => exact ⟨_, rfl, (turnAround_keepsSelect s).returnOk⟩
  | swdRequest | swdHdrDpRead0 | swdHdrDpRead4 | swdHdrDpRead8 | swdHdrDpReadC | swdHdrDpWrite0 | swdHdrDpWrite4
  | swdHdrDpWrite8 | swdHdrDpWriteC | swdHdrApRead0 | swdHdrApRead4 | swdHdrApRead8 | swdHdrApReadC | swdHdrApWrite0
  | swdHdrApWrite4 | swdHdrApWrite8 | swdHdrApWriteC => exact ⟨_, rfl, sendHeader_keepsSelect _ s⟩
  | swdAckOk | swdAckBad0 | swdAckBad2 | swdAckBad3 | swdAckBad4 | swdAckBad5 | swdAckBad6 | swdAckBad7 =>
    exact ⟨_, rfl, presentAck_keepsSelect _ s⟩
  | qpiEnterByte => exact ⟨_, rfl, txw_keepsSelect .one _ s⟩
  | qpiExitByte => exact ⟨_, rfl, txw_keepsSelect .four _ s⟩

/-- Settles O31: a QSPI phase adds pulses, an SWD sequence cycles, and neither writes the select pin. -/
theorem chipSelectIsTheCallers : Obligations.ChipSelectIsTheCallers := by
  intro i s hi
  obtain ⟨t, ht, hcs, e, htrace, he⟩ := exec_leavesSelect hi s
  exact ⟨t, e, ht, hcs, htrace, he⟩

/-! ## Scripts -/

/-- A request of an operation is accepted, decoded and run (30_encoding.md R80). -/
theorem step_request {i : Instr} {c : Byte} {a b : Word} {s : State} {rest : List Input} (hcode : codeOf i = (none, c))
    (hdecode : decodeOpcode c = .ok i) (hs : s.inbox = request i a b :: rest) :
    step s = exec i { s with opA := a, opB := b, inbox := rest } := by
  have htake : takeInput s = some (request i a b, { s with inbox := rest }) := by rw [takeInput, hs]
  have hword : decode (.request (packRecord c a b)) = .ok i := by rw [decode, recordOpc_pack, hdecode]
  rw [step, htake, request, encode_request hcode]
  simp only [hword, acceptWord, recordOpA_pack, recordOpB_pack]

theorem steps_succ {s t : State} (h : step s = .next t) (n : Nat) : steps (n + 1) s = steps n t := by
  rw [steps, h]

/-- A byte operand is the byte (30_encoding.md R83). -/
theorem opByte_setWidth (b : Byte) : opByte (b.setWidth 32) = b := by
  rw [opByte, ← BitVec.setWidth_eq_extractLsb' (by decide), BitVec.setWidth_setWidth_of_le b (by decide),
    BitVec.setWidth_eq]

/-- The state in which a script's `QSPI_WRITE_DATA` leaves the machine, with the rest of the script still to do. -/
def afterWriteData (b : Byte) (rest : List Input) (s : State) : State :=
  returnOk (qspiLeft 0 (lanesAfterOut (dataw s.qmode) b s.qio) (wireOut (dataw s.qmode) b)
    { s with opA := b.setWidth 32, opB := 0, inbox := rest })

/-- The state in which a script's `QSPI_READ_DATA` leaves the machine, with the rest of the script still to do. -/
def afterReadData (rest : List Input) (s : State) : State :=
  returnValue ((byteAt s).setWidth 32)
    (qspiLeft 8 (lanesAfterIn (dataw s.qmode) s.qio) (wireIn (dataw s.qmode) (byteAt s))
      { s with opA := 0, opB := 0, inbox := rest })

/-- A write samples nothing. -/
theorem sameEnvironment_afterWriteData (b : Byte) (rest : List Input) (s : State) :
    SameEnvironment s (afterWriteData b rest s) := by
  have hsample := congrArg State.sampleNo (consume_zero s)
  exact ⟨rfl, hsample.symm⟩

/-- One byte written from a script. -/
theorem step_writeData {b : Byte} {s : State} {rest : List Input}
    (hs : s.inbox = request .qspiWriteData (b.setWidth 32) 0 :: rest) :
    step s = .next (afterWriteData b rest s) := by
  refine (step_request rfl rfl hs).trans ((execQspiWriteData_eq _).trans ?_)
  simp only [opByte_setWidth, afterWriteData]

/-- One byte read from a script. -/
theorem step_readData {s : State} {rest : List Input} (hs : s.inbox = request .qspiReadData 0 0 :: rest) :
    step s = .next (afterReadData rest s) :=
  (step_request rfl rfl hs).trans (execQspiReadData_eq _)

/-- The mode set from a script. -/
theorem step_setMode {m : Mode} {s : State} {rest : List Input}
    (hs : s.inbox = request .qspiSetMode (m.code.setWidth 32) 0 :: rest) :
    step s = .next (returnOk (setMode m { s with opA := m.code.setWidth 32, opB := 0, inbox := rest })) :=
  (step_request rfl rfl hs).trans (execQspiSetMode_code rfl)

/-! ## Buffers (41_qspi.md R165) -/

theorem bytesAt_congr {s t : State} (ha : s.answers = t.answers) (hn : s.sampleNo = t.sampleNo) (n : Nat) :
    bytesAt n s = bytesAt n t := by
  refine List.map_congr_left fun k _ => byteAt_congr ?_ ?_
  · rw [consume_answers, consume_answers, ha]
  · rw [consume_sampleNo, consume_sampleNo, ha, hn]

/-- The first byte, and the bytes after its eight levels. -/
theorem bytesAt_succ (n : Nat) (s : State) : bytesAt (n + 1) s = byteAt s :: bytesAt n (consume 8 s) := by
  rw [bytesAt, bytesAt, List.range_succ_eq_map, List.map_cons, List.map_map, Nat.mul_zero, consume_zero]
  refine congrArg _ (List.map_congr_left fun k _ => ?_)
  rw [consume_consume, Function.comp_apply, Nat.succ_eq_add_one, Nat.mul_add, Nat.add_comm]

/-- A read takes eight levels. -/
theorem bytesAt_afterReadData (n : Nat) (rest : List Input) (s : State) :
    bytesAt n (afterReadData rest s) = bytesAt n (consume 8 s) :=
  bytesAt_congr rfl rfl n

/-- A written buffer is its bytes on the wire, by induction on the buffer. -/
theorem steps_qspiWriteBuf (m : List Byte) (s : State) (rest : List Input)
    (hs : s.inbox = qspiWriteBufScript m ++ rest) :
    ∃ t, steps m.length s = .next t ∧ t.trace = s.trace ++ m.flatMap (wireOut (dataw s.qmode))
      ∧ t.inbox = rest ∧ t.qmode = s.qmode ∧ t.qcs = s.qcs ∧ SameEnvironment s t := by
  induction m generalizing s with
  | nil => exact ⟨s, rfl, (List.append_nil _).symm, hs, rfl, rfl, rfl, rfl⟩
  | cons b m ih =>
    obtain ⟨t, ht, htrace, hinbox, hmode, hcs, henv⟩ :=
      ih (afterWriteData b (qspiWriteBufScript m ++ rest) s) rfl
    obtain ⟨hanswers, hsample⟩ := sameEnvironment_afterWriteData b (qspiWriteBufScript m ++ rest) s
    refine ⟨t, (steps_succ (step_writeData hs) _).trans ht, ?_, hinbox, hmode, hcs,
      hanswers.trans henv.1, hsample.trans henv.2⟩
    rw [htrace, List.flatMap_cons, ← List.append_assoc]
    rfl

/-- A read buffer is its bytes on the wire, and the last byte is the result, by induction on the count. -/
theorem steps_qspiReadBuf (n : Nat) (s : State) (rest : List Input) (hs : s.inbox = qspiReadBufScript n ++ rest) :
    ∃ t, steps n s = .next t ∧ t.trace = s.trace ++ (bytesAt n s).flatMap (wireIn (dataw s.qmode))
      ∧ t.inbox = rest ∧ t.qmode = s.qmode ∧ t.qcs = s.qcs
      ∧ t.res = ((bytesAt n s).getLast?.map (BitVec.setWidth 32)).getD s.res := by
  induction n generalizing s with
  | zero => exact ⟨s, rfl, (List.append_nil _).symm, hs, rfl, rfl, rfl⟩
  | succ n ih =>
    obtain ⟨t, ht, htrace, hinbox, hmode, hcs, hres⟩ := ih (afterReadData (qspiReadBufScript n ++ rest) s) rfl
    rw [bytesAt_afterReadData] at htrace hres
    refine ⟨t, (steps_succ (step_readData hs) _).trans ht, ?_, hinbox, hmode, hcs, ?_⟩
    · rw [htrace, bytesAt_succ, List.flatMap_cons, ← List.append_assoc]
      rfl
    · rw [hres, bytesAt_succ, List.getLast?_cons]
      cases (bytesAt n (consume 8 s)).getLast? <;> rfl

/-- Settles O45: buffers byte by byte; the mode is read again at the byte after it is set. -/
theorem buffersAreTheirBytes : Obligations.BuffersAreTheirBytes := by
  refine ⟨steps_qspiWriteBuf, fun n s rest hs => ?read, fun b c m s rest hs => ?modeChange⟩
  case read =>
    obtain ⟨t, ht, htrace, hinbox, hmode, hcs, hres⟩ := steps_qspiReadBuf n s rest hs
    refine ⟨t, ht, htrace, hinbox, hmode, hcs, fun b hb => ?_⟩
    rw [hres, hb]
    rfl
  case modeChange =>
    exact ⟨_, (steps_succ (step_writeData hs) 2).trans
      ((steps_succ (step_setMode rfl) 1).trans (steps_succ (step_writeData rfl) 0)), rfl⟩

end Sys2Proof.Machine

/-! The SWD engine (42_swd.md): the parity of a data word, the ends of a transaction as an operation meets them, and the
effect of each operation. -/

namespace Sys2Proof.Machine

/-! ## Parity (42_swd.md R187; 30_encoding.md R94) -/

theorem bitNat_odd (n : Nat) : bitNat (n % 2 == 1) = n % 2 := by
  rcases Nat.mod_two_eq_zero_or_one n with h | h <;> rw [h] <;> rfl

/-- One more bit counted turns the parity over exactly when it is 1. -/
theorem odd_add_bitNat (n : Nat) (b : Level) : ((n + bitNat b) % 2 == 1) = ((n % 2 == 1) ^^ b) := by
  cases b with
  | false => exact (Bool.xor_false _).symm
  | true => rcases Nat.mod_two_eq_zero_or_one n with h | h <;> simp [bitNat, Nat.add_mod, h]

/-- The exclusive or of the first n bits is the parity of their count. -/
theorem foldl_xor_range (f : Nat → Level) (n : Nat) :
    (List.range n).foldl (fun p i => p ^^ f i) false = (loop n (fun i c => c + bitNat (f i)) 0 % 2 == 1) := by
  induction n with
  | zero => rfl
  | succ n ih => rw [List.range_succ, List.foldl_append, ih, loop_succ, odd_add_bitNat, List.foldl_cons, List.foldl_nil]

/-- Settles O48: the count and the exclusive or run over the same bits; the three values by evaluation. -/
theorem parityIsTheXorReduction : Obligations.ParityIsTheXorReduction :=
  ⟨fun w => ⟨bitNat_odd (popcount w), (foldl_xor_range w.getLsbD 32).symm⟩, by decide⟩

/-! ## The ends of a transaction (42_swd.md R190, R192, R193) -/

section
variable {h : Byte} {s : State} (wdata : Word)

/-- Not acknowledged. -/
theorem swdXfer_of_unacknowledged (ha : ackAt s ≠ 1#3) :
    swdXfer h wdata s = { ok := false, data := 0, state := leftAborted h s } :=
  swdXfer_aborted h wdata s (ackIsOk_of_ne ha)

/-- A read with a wrong parity: no data is delivered. -/
theorem swdXfer_of_misread (hr : h.getLsbD 2 = true) (ha : ackAt s = 1#3) (hp : parityAt s ≠ parity32 (wordAt s)) :
    swdXfer h wdata s = { ok := false, data := 0, state := leftRead h s } := by
  rw [swdXfer_read h wdata s hr (ackIsOk_of_eq ha), if_neg hp, beq_false_of_ne hp]

/-- A read that delivers its word. -/
theorem swdXfer_of_read (hr : h.getLsbD 2 = true) (ha : ackAt s = 1#3) (hp : parityAt s = parity32 (wordAt s)) :
    swdXfer h wdata s = { ok := true, data := wordAt s, state := leftRead h s } := by
  rw [swdXfer_read h wdata s hr (ackIsOk_of_eq ha), if_pos hp, beq_iff_eq.mpr hp]

/-- A write that is acknowledged. -/
theorem swdXfer_of_written (hr : h.getLsbD 2 = false) (ha : ackAt s = 1#3) :
    swdXfer h wdata s = { ok := true, data := 0, state := leftWritten h wdata s } :=
  swdXfer_write h wdata s hr (ackIsOk_of_eq ha)

/-! ## A transaction followed by others (42_swd.md R203, R204) -/

variable (rest : State → Xfer)

/-- The rest is not issued. -/
theorem andThen_of_unacknowledged (ha : ackAt s ≠ 1#3) :
    (swdXfer h wdata s).andThen rest = { ok := false, data := 0, state := leftAborted h s } := by
  rw [swdXfer_of_unacknowledged wdata ha]; rfl

/-- A wrong parity ends the operation too. -/
theorem andThen_of_misread (hr : h.getLsbD 2 = true) (ha : ackAt s = 1#3) (hp : parityAt s ≠ parity32 (wordAt s)) :
    (swdXfer h wdata s).andThen rest = { ok := false, data := 0, state := leftRead h s } := by
  rw [swdXfer_of_misread wdata hr ha hp]; rfl

/-- The rest runs after the read; the word is dropped. -/
theorem andThen_of_read (hr : h.getLsbD 2 = true) (ha : ackAt s = 1#3) (hp : parityAt s = parity32 (wordAt s)) :
    (swdXfer h wdata s).andThen rest = rest (leftRead h s) := by
  rw [swdXfer_of_read wdata hr ha hp]; rfl

/-- The rest runs after the write. -/
theorem andThen_of_written (hr : h.getLsbD 2 = false) (ha : ackAt s = 1#3) :
    (swdXfer h wdata s).andThen rest = rest (leftWritten h wdata s) := by
  rw [swdXfer_of_written wdata hr ha]; rfl

end

/-! ## How an operation returns (30_encoding.md R81) -/

section
variable {o : Host.Outcome State Fault Refusal} {x : Xfer} {t : State} {w : Word}

/-- `return FAIL` after a failed read access. -/
theorem returnData_failed (ho : o = .next x.returnData) (hx : x = { ok := false, data := 0, state := t }) :
    o = .next { t with res := 0#32, status := 1#1 } := by
  rw [ho, hx]; rfl

/-- `return OK(w)`. -/
theorem returnData_delivered (ho : o = .next x.returnData) (hx : x = { ok := true, data := w, state := t }) :
    o = .next { t with res := w, status := 0#1 } := by
  rw [ho, hx]; rfl

/-- `return FAIL` after a failed write access. -/
theorem returnDone_failed (ho : o = .next x.returnDone) (hx : x = { ok := false, data := 0, state := t }) :
    o = .next { t with res := 0#32, status := 1#1 } := by
  rw [ho, hx]; rfl

/-- `return OK`. -/
theorem returnDone_done (ho : o = .next x.returnDone) (hx : x = { ok := true, data := w, state := t }) :
    o = .next { t with res := 0#32, status := 0#1 } := by
  rw [ho, hx]; rfl

end


/-! ## SWD_TURNAROUND and the Debug Port operations (42_swd.md R185, R201, R202) -/

/-- Settles O49: the cycle writes the clock and releases the line, whatever the pins were before. -/
theorem turnaroundEffect : Obligations.TurnaroundEffect :=
  ⟨rfl, fun _ => rfl⟩

/-- Settles O50: one read, in its three ends; its header has the address bits of `OP_A`. -/
theorem readDpEffect : Obligations.ReadDpEffect :=
  have hr (s : State) : (header false true (opDpAddr s.opA)).getLsbD 2 = true := header_rnw _ _ _
  ⟨rfl, fun s => ⟨fun ha => returnData_failed rfl (swdXfer_of_unacknowledged 0 ha),
    fun ha hp => returnData_failed rfl (swdXfer_of_misread 0 (hr s) ha hp),
    fun ha hp => returnData_delivered rfl (swdXfer_of_read 0 (hr s) ha hp)⟩⟩

/-- Settles O51: one write, in its two ends; its header has the address bits of `OP_A`. -/
theorem writeDpEffect : Obligations.WriteDpEffect :=
  ⟨rfl, fun s => ⟨fun ha => returnDone_failed rfl (swdXfer_of_unacknowledged s.opB ha),
    fun ha => returnDone_done rfl (swdXfer_of_written s.opB (header_rnw _ _ _) ha)⟩⟩

/-! ## SWD_INIT (42_swd.md R186, R200) -/

/-- Steps (a) to (d) of `init()`, at the value of the open parameter (42_swd.md R200). -/
theorem swdConnect_swdResetClocks (switch : BitVec 16) (s : State) :
    swdConnect Config.swdResetClocks switch s
      = swdLeft 0 (Pin.drive false) (connectTrace Config.swdResetClocks switch) s := by
  have hn : Config.swdResetClocks = 49 + Config.swdResetExtraClocks + 1 := by
    rw [Config.swdResetClocks]
    omega
  rw [hn, swdConnect_succ]

/-- A sequence that samples nothing leaves the environment as it is. -/
theorem sameEnvironment_swdLeft_zero (dio : Pin) (e : List Event) (s : State) :
    SameEnvironment (swdLeft 0 dio e s) s := by
  simp [SameEnvironment, swdLeft]

/-- Settles O52: the connection sequence samples nothing, so the read after it meets the levels that the environment had
ready before it. -/
theorem swdInitEffect : Obligations.SwdInitEffect := by
  refine ⟨rfl, Nat.le_add_right _ _, fun s connected hc => ?_⟩
  have hstate : swdConnect Config.swdResetClocks Config.swdJtag2Swd s = connected :=
    (swdConnect_swdResetClocks Config.swdJtag2Swd s).trans hc.symm
  have hexec : exec .swdInit s = .next (swdXfer 0xA5#8 0 connected).returnData :=
    congrArg (fun t => Host.Outcome.next (swdXfer 0xA5#8 0 t).returnData) hstate
  have henv : SameEnvironment connected s := hc ▸ sameEnvironment_swdLeft_zero _ _ s
  obtain ⟨hack, hword, hpar⟩ := presented_congr henv
  have hr : (0xA5#8).getLsbD 2 = true := by decide
  rw [hack, hword, hpar]
  exact ⟨fun ha => returnData_failed hexec (swdXfer_of_unacknowledged 0 ha),
    fun ha hp => returnData_failed hexec (swdXfer_of_misread 0 hr ha hp),
    fun ha hp => returnData_delivered hexec (swdXfer_of_read 0 hr ha hp)⟩

/-! ## The Access Port operations (42_swd.md R203, R204) -/

/-- `SWD_READ_AP` with the fields of `OP_A` written as slices. -/
theorem exec_swdReadAp (s : State) :
    exec .swdReadAp s = .next
      ((swdXfer 0xB1#8 (selectValue (s.opA.extractLsb' 8 8) (s.opA.extractLsb' 0 8)) s).andThen fun t =>
        (swdXfer (header true true (s.opA.extractLsb' 2 2)) 0 t).andThen (swdXfer 0xBD#8 0)).returnData := by
  rw [← headerAddr_op]; rfl

/-- `SWD_WRITE_AP` with the fields of `OP_A` written as slices. -/
theorem exec_swdWriteAp (s : State) :
    exec .swdWriteAp s = .next
      ((swdXfer 0xB1#8 (selectValue (s.opA.extractLsb' 8 8) (s.opA.extractLsb' 0 8)) s).andThen
        (swdXfer (header true false (s.opA.extractLsb' 2 2)) s.opB)).returnDone := by
  rw [← headerAddr_op]; rfl

/-- Settles O53: each transaction in turn ends the operation by failing, or hands the machine to the next; the read of
RDBUFF is the last. -/
theorem readApEffect : Obligations.ReadApEffect := by
  refine ⟨rfl, fun s s1 s2 h1 h2 => ?_⟩
  have hpost : (header true true (s.opA.extractLsb' 2 2)).getLsbD 2 = true := header_rnw _ _ _
  have hrdbuff : (0xBD#8).getLsbD 2 = true := by decide
  have selected (ha : ackAt s = 1#3) : exec .swdReadAp s = .next
      ((swdXfer (header true true (s.opA.extractLsb' 2 2)) 0 s1).andThen (swdXfer 0xBD#8 0)).returnData := by
    rw [exec_swdReadAp, andThen_of_written _ _ (by decide) ha, ← h1]
  have posted (ha : ackAt s = 1#3) (ha1 : ackAt s1 = 1#3) (hp1 : parityAt s1 = parity32 (wordAt s1)) :
      exec .swdReadAp s = .next (swdXfer 0xBD#8 0 s2).returnData := by
    rw [selected ha, andThen_of_read _ _ hpost ha1 hp1, ← h2]
  refine ⟨fun ha => ?_, fun ha ha1 => ?_, fun ha ha1 hp1 => ?_, fun ha ha1 hp1 ha2 => ?_,
    fun ha ha1 hp1 ha2 hp2 => ?_, fun ha ha1 hp1 ha2 hp2 => ?_⟩
  · exact returnData_failed (exec_swdReadAp s) (andThen_of_unacknowledged _ _ ha)
  · exact returnData_failed (selected ha) (andThen_of_unacknowledged _ _ ha1)
  · rw [h2]
    exact returnData_failed (selected ha) (andThen_of_misread _ _ hpost ha1 hp1)
  · exact returnData_failed (posted ha ha1 hp1) (swdXfer_of_unacknowledged 0 ha2)
  · exact returnData_failed (posted ha ha1 hp1) (swdXfer_of_misread 0 hrdbuff ha2 hp2)
  · exact returnData_delivered (posted ha ha1 hp1) (swdXfer_of_read 0 hrdbuff ha2 hp2)

/-- Settles O54: SELECT ends the operation by failing, or hands the machine to the write of the register, the last
transaction. -/
theorem writeApEffect : Obligations.WriteApEffect := by
  refine ⟨rfl, fun s s1 h1 => ?_⟩
  have selected (ha : ackAt s = 1#3) :
      exec .swdWriteAp s = .next (swdXfer (header true false (s.opA.extractLsb' 2 2)) s.opB s1).returnDone := by
    rw [exec_swdWriteAp, andThen_of_written _ _ (by decide) ha, ← h1]
  exact ⟨fun ha => returnDone_failed (exec_swdWriteAp s) (andThen_of_unacknowledged _ _ ha),
    fun ha ha1 => returnDone_failed (selected ha) (swdXfer_of_unacknowledged s.opB ha1),
    fun ha ha1 => returnDone_done (selected ha) (swdXfer_of_written s.opB (header_rnw _ _ _) ha1)⟩

end Sys2Proof.Machine

/-! The decoder and the encoder undo each other (30_encoding.md R80, R82, R85, R91 to R95, R102), and what a step does with
its next input. -/

namespace Sys2Proof

/-! ## From an instruction to its code and back -/

/-- The decoder on an instruction's code, in the code's own space. -/
def decodeCode : Option WireFormat × Byte → Except Reject Instr
  | (none, c) => decodeOpcode c
  | (some f, c) => decodeWire f c

theorem decode_encode_eq_decodeCode (i : Instr) (a b : Word) : decode (encode i a b) = decodeCode (codeOf i) := by
  rcases h : codeOf i with ⟨_ | f, c⟩
  · rw [encode_request h, decode, recordOpc_pack, decodeCode]
  · rw [encode_wire h, decode, decodeCode]

/-- A header byte is framed, and its bits are its five operands (30_encoding.md R91). -/
theorem headerFramed_headerBits (apndp rnw a2 a3 parity : Bool) :
    headerFramed (headerBits apndp rnw a2 a3 parity) = true := by
  revert apndp rnw a2 a3 parity
  decide

theorem decodeRequestPattern_headerBits (apndp rnw a2 a3 : Bool) :
    decodeRequestPattern (headerBits apndp rnw a2 a3 (Machine.headerParity apndp rnw a2 a3))
      = .ok (.swdRequest apndp rnw a2 a3 (Machine.headerParity apndp rnw a2 a3)) := by
  obtain ⟨-, h1, h2, h3, h4, h5, -, -⟩ :=
    Machine.headerBits_fields apndp rnw a2 a3 (Machine.headerParity apndp rnw a2 a3)
  rw [decodeRequestPattern, headerFramed_headerBits, h1, h2, h3, h4, h5]
  simp

/-- Every code of the tables decodes to its row. -/
theorem decodeCode_codeOf {i : Instr} (hi : i.WellFormed) : decodeCode (codeOf i) = .ok i := by
  cases i with
  | swdRequest apndp rnw a2 a3 parity =>
    rw [beq_iff_eq.mp hi]
    exact decodeRequestPattern_headerBits apndp rnw a2 a3
  | _ => rfl

/-- The operations of the port are the instructions whose code lies in no wire encoding (30_encoding.md R82). -/
theorem isOperation_eq_isNone (i : Instr) : i.isOperation = (codeOf i).1.isNone := by
  cases i <;> rfl

theorem codeOf_of_isOperation {i : Instr} (h : i.isOperation = true) : codeOf i = (none, (codeOf i).2) :=
  Prod.ext (Option.isNone_iff_eq_none.mp ((isOperation_eq_isNone i).symm.trans h)) rfl

/-- Settles O7: the code of an instruction decodes to it in its own space, and a record gives back its fields. -/
theorem decodeEncodeRoundTrip : Obligations.DecodeEncodeRoundTrip := by
  refine fun i a b hi => ⟨(decode_encode_eq_decodeCode i a b).trans (decodeCode_codeOf hi), fun hop => ?_⟩
  exact ⟨_, encode_request (codeOf_of_isOperation hop) a b, recordOpA_pack _ a b, recordOpB_pack _ a b⟩

/-- A framed header with the parity of R92 is the pattern of its five operands (30_encoding.md R91). -/
theorem headerBits_of_framed : ∀ h : Byte, headerFramed h = true →
    headerBits (h.getLsbD 1) (h.getLsbD 2) (h.getLsbD 3) (h.getLsbD 4) (h.getLsbD 5) = h := by
  decide

/-- What a decoder may answer on a code `c` of the space `f`: a well-formed instruction whose code it is, or a reason that the
machine takes for a word it cannot produce (30_encoding.md R98). -/
def WireAnswer (f : WireFormat) (c : Byte) : Except Reject Instr → Prop
  | .ok i => i.WellFormed ∧ codeOf i = (some f, c)
  | .error e => ∀ s, Machine.onReject e s = .fault (.unproducibleWord e)

theorem decodeRequestPattern_answer (h : Byte) : WireAnswer .swdRequest h (decodeRequestPattern h) := by
  unfold decodeRequestPattern
  split
  · exact fun _ => rfl
  next hframed =>
    split
    · exact fun _ => rfl
    next hparity =>
      exact ⟨by simpa [Instr.WellFormed, Instr.wellFormed] using hparity,
        by rw [codeOf, headerBits_of_framed h (by simpa using hframed)]⟩

theorem decodeHeaderByte_answer (h : Byte) : WireAnswer .swdHeader h (decodeHeaderByte h) := by
  unfold decodeHeaderByte
  split
  case h_17 => split <;> exact fun _ => rfl
  all_goals exact ⟨rfl, rfl⟩

theorem decodeAck_answer (c : Byte) : WireAnswer .swdAck c (decodeAck c) := by
  unfold decodeAck
  split
  case h_9 => exact fun _ => rfl
  all_goals exact ⟨rfl, rfl⟩

theorem decodeCommandByte_answer (c : Byte) : WireAnswer .qspiCmdByte c (decodeCommandByte c) := by
  unfold decodeCommandByte
  split
  case h_3 => exact fun _ => rfl
  all_goals exact ⟨rfl, rfl⟩

theorem decodeModeCode_answer (c : Byte) : WireAnswer .qmode c (decodeModeCode c) := by
  unfold decodeModeCode
  split
  case h_7 => exact fun _ => rfl
  all_goals exact ⟨rfl, rfl⟩

theorem decodeWire_answer (f : WireFormat) (c : Byte) : WireAnswer f c (decodeWire f c) := by
  cases f with
  | swdRequest => exact decodeRequestPattern_answer c
  | swdHeader => exact decodeHeaderByte_answer c
  | swdAck => exact decodeAck_answer c
  | qspiCmdByte => exact decodeCommandByte_answer c
  | qmode => exact decodeModeCode_answer c

/-- What the decoder may answer on an operation code: an instruction whose code it is, or the port's one reason to refuse
(30_encoding.md R82, R84). -/
def PortAnswer (c : Byte) : Except Reject Instr → Prop
  | .ok i => i.WellFormed ∧ codeOf i = (none, c)
  | .error e => e = .undefinedOpcode c

theorem decodeOpcode_answer (c : Byte) : PortAnswer c (decodeOpcode c) := by
  unfold decodeOpcode
  split
  case h_23 => rfl
  all_goals exact ⟨rfl, rfl⟩

theorem encoding_of_decodeWire {f : WireFormat} {c : Byte} {i : Instr} (h : decodeWire f c = .ok i) :
    i.WellFormed ∧ codeOf i = (some f, c) :=
  (h ▸ decodeWire_answer f c : WireAnswer f c (.ok i))

theorem encoding_of_decodeOpcode {c : Byte} {i : Instr} (h : decodeOpcode c = .ok i) :
    i.WellFormed ∧ codeOf i = (none, c) :=
  (h ▸ decodeOpcode_answer c : PortAnswer c (.ok i))

/-- Settles O8: a record is the encoding of its own operands, a wire code of any. -/
theorem encodeDecodeRoundTrip : Obligations.EncodeDecodeRoundTrip := by
  intro w i h
  cases w with
  | request r =>
    obtain ⟨hwf, hcode⟩ := encoding_of_decodeOpcode h
    exact ⟨hwf, recordOpA r, recordOpB r, by rw [encode_request hcode, pack_fields]⟩
  | wire f c =>
    obtain ⟨hwf, hcode⟩ := encoding_of_decodeWire h
    exact ⟨hwf, 0, 0, encode_wire hcode 0 0⟩

/-- Settles O9: each word by evaluation, the table of the codes as one list of answers. -/
theorem specWordsDecode : Obligations.SpecWordsDecode :=
  ⟨List.map_inj_left.mp rfl, rfl, rfl, rfl, rfl, rfl, rfl, rfl, rfl, rfl, rfl⟩

end Sys2Proof

namespace Sys2Proof.Machine

/-! ## One step by its next input -/

section
variable {s : State} {rest : List Input} {w : PortWord}

theorem step_of_idle (hs : s.inbox = []) : step s = .next s := by
  rw [step, takeInput, hs]

theorem step_of_reset (hs : s.inbox = .reset :: rest) : step s = .next (resetEvent { s with inbox := rest }) := by
  rw [step, takeInput, hs]

theorem step_of_decoded {i : Instr} (hs : s.inbox = .word w :: rest) (hd : decode w = .ok i) :
    step s = exec i (acceptWord w { s with inbox := rest }) := by
  have htake : takeInput s = some (.word w, { s with inbox := rest }) := by rw [takeInput, hs]
  rw [step, htake]
  simp only [hd]

theorem step_of_rejected {e : Reject} (hs : s.inbox = .word w :: rest) (hd : decode w = .error e) :
    step s = onReject e (acceptWord w { s with inbox := rest }) := by
  have htake : takeInput s = some (.word w, { s with inbox := rest }) := by rw [takeInput, hs]
  rw [step, htake]
  simp only [hd]

end

theorem onReject_of_decodeWire {f : WireFormat} {c : Byte} {e : Reject} (hd : decodeWire f c = .error e) (s : State) :
    onReject e s = .fault (.unproducibleWord e) :=
  (hd ▸ decodeWire_answer f c : WireAnswer f c (.error e)) s

theorem onReject_of_decodeOpcode {c : Byte} {e : Reject} (hd : decodeOpcode c = .error e) (s : State) :
    onReject e s = .next (returnFail s) := by
  have hreason : e = .undefinedOpcode c := (hd ▸ decodeOpcode_answer c : PortAnswer c (.error e))
  rw [hreason, onReject]

/-- Settles O2: a reset event writes the whole block. -/
theorem resetEventForgetsTheBlock : Obligations.ResetEventForgetsTheBlock := fun _ _ hs =>
  ⟨_, step_of_reset hs, resetLeavesTheSpecValues, rfl⟩

/-- Settles O5: the equation of a step for each kind of next input. -/
theorem stepRunsTheDecodedInstruction : Obligations.StepRunsTheDecodedInstruction :=
  ⟨fun _ _ _ _ hs hd => step_of_decoded hs hd, fun _ _ _ _ _ hs hd => step_of_decoded hs hd,
    fun _ _ _ _ hs hd => step_of_rejected hs hd,
    fun _ _ _ _ _ hs hd => (step_of_rejected hs hd).trans (onReject_of_decodeWire hd _),
    fun _ _ hs => ⟨_, step_of_reset hs, rfl, ⟨rfl, rfl⟩, rfl⟩, fun _ hs => step_of_idle hs⟩

end Sys2Proof.Machine

/-! What a step may do to the pins and the wire trace, as moves of the two engines, each of which keeps the invariant:
every step keeps it, and every engine adds to the trace in its own alphabet. -/

namespace Sys2Proof.Machine

/-! ## The pins and the wire trace -/

/-- What stands on the wires of the block: its pins (10_state.md R32, R35) and the wire trace. -/
structure Wires where
  qcs : Pin
  qclk : Pin
  qio : Lanes
  swclk : Pin
  swdio : Pin
  trace : List Event

def wiresOf (s : State) : Wires where
  qcs := s.qcs
  qclk := s.qclk
  qio := s.qio
  swclk := s.swclk
  swdio := s.swdio
  trace := s.trace

/-- How the last SWD event, if any, tells the state of `SWDIO` (42_swd.md R182, R183, R185). -/
def ShowsLine : Option Event → Pin → Prop
  | none, p => p.dir = .input
  | some (.h b), p => p = Pin.drive b
  | some _, p => p.dir = .input

/-- How the last select event, if any, tells the state of `QCS` (41_qspi.md R140 to R142). -/
def ShowsSelect : Option Event → Pin → Prop
  | none, p => p.dir = .input
  | some .cs0, p => p = Pin.drive false
  | some _, p => p = Pin.drive true

/-- Some data lane is driven. -/
def Lanes.Driven (q : Lanes) : Prop :=
  q.io0.dir = .output ∨ q.io1.dir = .output ∨ q.io2.dir = .output ∨ q.io3.dir = .output

/-- The part of the invariant that is about the wires. -/
def Wires.Sound (w : Wires) : Prop :=
  (w.qclk.out = false ∧ w.swclk.out = false) ∧ w.qio.io2.dir = w.qio.io3.dir
    ∧ ((w.qio.Driven → w.qclk.dir = .output) ∧ (w.swdio.dir = .output → w.swclk.dir = .output))
    ∧ ShowsLine (w.trace.filter Event.isSwd).getLast? w.swdio
    ∧ ShowsSelect (w.trace.filter Event.isSelect).getLast? w.qcs

theorem lineAgrees_iff (s : State) : LineAgrees s ↔ ShowsLine (s.trace.filter Event.isSwd).getLast? s.swdio := by
  unfold LineAgrees
  rcases (s.trace.filter Event.isSwd).getLast? with _ | x
  · rfl
  · cases x <;> rfl

theorem selectAgrees_iff (s : State) : SelectAgrees s ↔ ShowsSelect (s.trace.filter Event.isSelect).getLast? s.qcs := by
  unfold SelectAgrees
  rcases (s.trace.filter Event.isSelect).getLast? with _ | x
  · rfl
  · cases x <;> rfl

theorem stateInvariant_iff (s : State) : StateInvariant s ↔ FailClearsResult s ∧ (wiresOf s).Sound := by
  rw [StateInvariant, lineAgrees_iff, selectAgrees_iff]
  rfl

/-! ## Moves -/

/-- What an engine can do to the wires; the CRC unit leaves them still. -/
inductive Moves : BlockUnit → Wires → Wires → Prop
  | still (u : BlockUnit) (w : Wires) : Moves u w w
  /-- `QCS` driven, with its event (41_qspi.md R141, R142). -/
  | select (v : Level) (w : Wires) :
      Moves .qspi w { w with qcs := Pin.drive v, trace := w.trace ++ [if v then .cs1 else .cs0] }
  /-- The lanes released (41_qspi.md R140, R152). -/
  | release (w : Wires) : Moves .qspi w { w with qio := lanesAfterIn .four w.qio }
  /-- Pulses on `QCLK`, which end low; the upper lanes stay together (41_qspi.md R131, R138). -/
  | shift (q : Lanes) (e : List Event) (w : Wires) (hq : w.qio.io2.dir = w.qio.io3.dir → q.io2.dir = q.io3.dir)
      (he : ∀ x ∈ e, x.isPulse = true) :
      Moves .qspi w { w with qclk := Pin.drive false, qio := q, trace := w.trace ++ e }
  /-- SWD cycles, at least one; the last tells the line (42_swd.md R181 to R185). -/
  | clock (dio : Pin) (e : List Event) (x : Event) (w : Wires) (hlast : e.getLast? = some x)
      (hline : ShowsLine (some x) dio) (he : ∀ y ∈ e, y.isSwd = true) :
      Moves .swd w { w with swclk := Pin.drive false, swdio := dio, trace := w.trace ++ e }
  | trans {u : BlockUnit} {a b c : Wires} : Moves u a b → Moves u b c → Moves u a c

theorem isSwd_of_isPulse {x : Event} (h : x.isPulse = true) : x.isSwd = false := by
  rw [Event.isPulse, Bool.and_eq_true, Bool.not_eq_true', Bool.not_eq_true'] at h
  exact h.1

/-- Events that `p` does not see do not change the last one it sees. -/
theorem filter_append_unseen {p : Event → Bool} {e : List Event} (he : ∀ x ∈ e, p x = false) (tr : List Event) :
    (tr ++ e).filter p = tr.filter p := by
  rw [List.filter_append, List.filter_eq_nil_iff.mpr fun x hx => Bool.eq_false_iff.mp (he x hx), List.append_nil]

/-- When `p` sees all that was added, the last of it is the last it sees. -/
theorem getLast?_filter_append_seen {p : Event → Bool} {e : List Event} {y : Event} (hlast : e.getLast? = some y)
    (he : ∀ x ∈ e, p x = true) (tr : List Event) : ((tr ++ e).filter p).getLast? = some y := by
  rw [List.filter_append, List.filter_eq_self.mpr he, List.getLast?_append, hlast, Option.some_or]

theorem Moves.sound {u : BlockUnit} {a b : Wires} (h : Moves u a b) : a.Sound → b.Sound := by
  induction h with
  | still u w => exact id
  | select v w =>
    rintro ⟨hclocks, hupper, hdriven, hline, -⟩
    refine ⟨hclocks, hupper, hdriven, ?_, ?_⟩
    · dsimp only
      rwa [filter_append_unseen (by cases v <;> simp [Event.isSwd])]
    · dsimp only
      rw [getLast?_filter_append_seen rfl (by cases v <;> simp [Event.isSelect])]
      cases v <;> rfl
  | release w =>
    rintro ⟨hclocks, -, ⟨-, hswd⟩, hline, hselect⟩
    refine ⟨hclocks, rfl, ⟨fun h => ?_, hswd⟩, hline, hselect⟩
    rcases h with h | h | h | h <;> cases h
  | shift q e w hq he =>
    rintro ⟨⟨-, hswclk⟩, hupper, ⟨-, hswd⟩, hline, hselect⟩
    refine ⟨⟨rfl, hswclk⟩, hq hupper, ⟨fun _ => rfl, hswd⟩, ?_, ?_⟩
    · dsimp only
      rwa [filter_append_unseen fun x hx => isSwd_of_isPulse (he x hx)]
    · dsimp only
      rwa [filter_append_unseen fun x hx => isSelect_of_isPulse (he x hx)]
  | clock dio e x w hlast hline he =>
    rintro ⟨⟨hqclk, -⟩, hupper, ⟨hlanes, -⟩, -, hselect⟩
    refine ⟨⟨hqclk, rfl⟩, hupper, ⟨hlanes, fun _ => rfl⟩, ?_, ?_⟩
    · dsimp only
      rwa [getLast?_filter_append_seen hlast he]
    · dsimp only
      rwa [filter_append_unseen fun x hx => isSelect_of_isSwd (he x hx)]
  | trans _ _ ihab ihbc => exact fun h => ihbc (ihab h)

/-- The events a move of a unit may add: the CRC unit none, an engine those of its own alphabet (00_scope.md R13). -/
def OwnEvents : BlockUnit → List Event → Prop
  | .crc, e => e = []
  | .qspi, e => ∀ x ∈ e, x.isSwd = false
  | .swd, e => ∀ x ∈ e, x.isSwd = true

theorem ownEvents_nil (u : BlockUnit) : OwnEvents u [] := by
  cases u with
  | crc => rfl
  | qspi | swd => exact fun _ hx => absurd hx List.not_mem_nil

theorem OwnEvents.append {u : BlockUnit} {d e : List Event} (hd : OwnEvents u d) (he : OwnEvents u e) :
    OwnEvents u (d ++ e) := by
  cases u with
  | crc => rw [hd, he]; rfl
  | qspi | swd => exact fun x hx => (List.mem_append.mp hx).elim (hd x) (he x)

theorem Moves.trace {u : BlockUnit} {a b : Wires} (h : Moves u a b) : ∃ e, b.trace = a.trace ++ e ∧ OwnEvents u e := by
  induction h with
  | still u w => exact ⟨[], (List.append_nil _).symm, ownEvents_nil u⟩
  | select v w => exact ⟨_, rfl, by cases v <;> simp [OwnEvents, Event.isSwd]⟩
  | release w => exact ⟨[], (List.append_nil _).symm, ownEvents_nil .qspi⟩
  | shift q e w hq he => exact ⟨e, rfl, fun x hx => isSwd_of_isPulse (he x hx)⟩
  | clock dio e x w hlast hline he => exact ⟨e, rfl, he⟩
  | trans _ _ ihab ihbc =>
    obtain ⟨d, hd, hown⟩ := ihab
    obtain ⟨e, he, hown'⟩ := ihbc
    exact ⟨d ++ e, by rw [he, hd, List.append_assoc], hown.append hown'⟩

/-! ## How an operation returns: no wire is touched (30_encoding.md R81) -/

theorem Moves.returnValue {u : BlockUnit} {a : Wires} {t : State} (h : Moves u a (wiresOf t)) (v : Word) :
    Moves u a (wiresOf (returnValue v t)) := h

theorem Moves.returnOk {u : BlockUnit} {a : Wires} {t : State} (h : Moves u a (wiresOf t)) :
    Moves u a (wiresOf (returnOk t)) := h

theorem Moves.returnFail {u : BlockUnit} {a : Wires} {t : State} (h : Moves u a (wiresOf t)) :
    Moves u a (wiresOf (returnFail t)) := h

/-! ## The QSPI engine -/

theorem upperLanes_lanesAfterOut (w : Width) (b : Byte) {q : Lanes} (h : q.io2.dir = q.io3.dir) :
    (lanesAfterOut w b q).io2.dir = (lanesAfterOut w b q).io3.dir := by
  cases w with
  | one | two => exact h
  | four => rfl

theorem upperLanes_lanesAfterIn (w : Width) {q : Lanes} (h : q.io2.dir = q.io3.dir) :
    (lanesAfterIn w q).io2.dir = (lanesAfterIn w q).io3.dir := by
  cases w with
  | one | two => exact h
  | four => rfl

theorem moves_byteOut (n : Nat) (w : Width) (b : Byte) (s : State) :
    Moves .qspi (wiresOf s) (wiresOf (qspiLeft n (lanesAfterOut w b s.qio) (wireOut w b) s)) :=
  .shift _ _ _ (upperLanes_lanesAfterOut w b) (isPulse_of_mem_wireOut w b)

theorem txw_moves (w : Width) (b : Byte) (s : State) : Moves .qspi (wiresOf s) (wiresOf (txw w b s)) := by
  rw [txw_eq]
  exact moves_byteOut 0 w b s

theorem switchMode_moves (temporary committed : Mode) (cmd : Byte) (s : State) :
    Moves .qspi (wiresOf s) (wiresOf (switchMode temporary committed cmd s)) := by
  rw [switchMode_eq]
  exact moves_byteOut 0 (cmdw temporary) cmd s

/-- The instruction completes, and what it does to the wires are moves of the unit. -/
def RunsBy (u : BlockUnit) (op : Operation) : Prop := ∀ s, ∃ t, op s = .next t ∧ Moves u (wiresOf s) (wiresOf t)

theorem execQspiInit_runs : RunsBy .qspi execQspiInit := fun s =>
  ⟨_, execQspiInit_eq s, (Moves.select true (wiresOf s)).trans
    ((Moves.shift s.qio [] _ id (fun _ hx => absurd hx List.not_mem_nil)).trans
      (by simpa [wiresOf] using Moves.release _))⟩

theorem execQspiSetMode_runs : RunsBy .qspi execQspiSetMode := fun s => by
  rcases execQspiSetMode_cases s.opA with h | ⟨m, h⟩
  · exact ⟨_, h s rfl, .still _ _⟩
  · exact ⟨_, h s rfl, .still _ _⟩

theorem execQspiSendAddress_runs : RunsBy .qspi execQspiSendAddress := fun s => by
  by_cases h : s.opB = 3#32 ∨ s.opB = 4#32
  · exact ⟨_, execQspiSendAddress_sent h,
      .shift _ _ _ (upperLanes_lanesAfterOut _ _) (isPulse_of_mem_flatMap_wireOut _ _)⟩
  · exact ⟨_, execQspiSendAddress_refused h, .still _ _⟩

theorem dummyPulses_moves (n : Nat) (s : State) : Moves .qspi (wiresOf s) (wiresOf (dummyPulses n s)) := by
  induction n with
  | zero => exact .still _ _
  | succ n ih => exact ih.trans (.shift _ [.z] _ id (by simp [Event.isPulse, Event.isSwd, Event.isSelect]))

theorem execQspiSendDummy_runs : RunsBy .qspi execQspiSendDummy := fun s =>
  ⟨_, rfl, (Moves.release (wiresOf s)).trans (dummyPulses_moves _ (releaseLanes s))⟩

theorem execQspiReadData_runs : RunsBy .qspi execQspiReadData := fun s =>
  ⟨_, execQspiReadData_eq s, .shift _ _ _ (upperLanes_lanesAfterIn _) (isPulse_of_mem_wireIn _ _)⟩

theorem execQspiTransfer_runs : RunsBy .qspi execQspiTransfer := fun s => by
  by_cases h : s.qmode = .standard
  · exact ⟨_, execQspiTransfer_standard h, .shift _ _ _ id (isPulse_of_mem_wireDuplex _ _)⟩
  · exact ⟨_, execQspiTransfer_refused h, .still _ _⟩

/-! ## The SWD engine -/

theorem moves_swdLeft {dio : Pin} {e : List Event} {x : Event} (hlast : e.getLast? = some x)
    (hline : ShowsLine (some x) dio) (he : ∀ y ∈ e, y.isSwd = true) (n : Nat) (s : State) :
    Moves .swd (wiresOf s) (wiresOf (swdLeft n dio e s)) :=
  .clock _ _ _ _ hlast hline he

theorem turnAround_moves (s : State) : Moves .swd (wiresOf s) (wiresOf (turnAround s)) := by
  rw [turnAround_eq]
  exact moves_swdLeft (x := .swdZ) rfl (by rfl) (by simp [Event.isSwd]) 0 s

theorem sendHeader_moves (h : Byte) (s : State) : Moves .swd (wiresOf s) (wiresOf (sendHeader h s)) := by
  rw [sendHeader_eq]
  exact moves_swdLeft (x := .h (h.getLsbD 7)) rfl (by rfl) (isSwd_of_mem_hostBits _ _) _ s

theorem swdConnect_moves (switch : BitVec 16) (s : State) :
    Moves .swd (wiresOf s) (wiresOf (swdConnect Config.swdResetClocks switch s)) := by
  rw [swdConnect_swdResetClocks]
  have hlast : (connectTrace Config.swdResetClocks switch).getLast? = some (.h false) := by
    simp [connectTrace, List.replicate_succ]
  exact moves_swdLeft hlast (by rfl) (isSwd_of_mem_connectTrace _ _) _ s

/-- The three ends of a transaction (42_swd.md R190): a turnaround with the line released, or the parity driven. -/
theorem swdXfer_moves (h : Byte) (wdata : Word) (s : State) :
    Moves .swd (wiresOf s) (wiresOf (swdXfer h wdata s).state) := by
  cases ha : ackIsOk (ackAt s) with
  | false =>
    rw [swdXfer_aborted h wdata s ha]
    exact moves_swdLeft List.getLast?_concat (by rfl) (isSwd_of_mem_abortedTrace _ _) _ s
  | true =>
    cases hr : h.getLsbD 2 with
    | true =>
      rw [swdXfer_read h wdata s hr ha]
      exact moves_swdLeft List.getLast?_concat (by rfl) (isSwd_of_mem_readTrace _ _ _) _ s
    | false =>
      rw [swdXfer_write h wdata s hr ha]
      exact moves_swdLeft List.getLast?_concat (by rfl) (isSwd_of_mem_writeTrace _ _) _ s

theorem Moves.andThen {a : Wires} {x : Xfer} {rest : State → Xfer} (hx : Moves .swd a (wiresOf x.state))
    (hrest : ∀ t, Moves .swd (wiresOf t) (wiresOf (rest t).state)) :
    Moves .swd a (wiresOf (x.andThen rest).state) := by
  rw [Xfer.andThen]
  split
  · exact hx.trans (hrest x.state)
  · exact hx

theorem Moves.returnData {a : Wires} {x : Xfer} (h : Moves .swd a (wiresOf x.state)) :
    Moves .swd a (wiresOf x.returnData) := by
  rw [Xfer.returnData]
  split
  · exact h.returnValue _
  · exact h.returnFail

theorem Moves.returnDone {a : Wires} {x : Xfer} (h : Moves .swd a (wiresOf x.state)) :
    Moves .swd a (wiresOf x.returnDone) := by
  rw [Xfer.returnDone]
  split
  · exact h.returnOk
  · exact h.returnFail

theorem presentAck_moves (ack : BitVec 3) (s : State) : Moves .swd (wiresOf s) (wiresOf (presentAck ack s)) := by
  rw [presentAck_eq]
  split
  · exact moves_swdLeft (x := .t (ack.getLsbD 2)) rfl (by rfl) (isSwd_of_mem_targetBits _ _) 0 s
  · exact moves_swdLeft List.getLast?_concat (by rfl)
      (by simp [targetBits, or_imp, forall_and, Event.isSwd]) 0 s

/-! ## Every instruction -/

/-- The unit whose wires an instruction can move: an operation's own, a wire row's engine. -/
def engine (i : Instr) : BlockUnit :=
  match i.unit?, (codeOf i).1 with
  | some u, _ => u
  | none, some .qspiCmdByte => .qspi
  | none, some .qmode => .qspi
  | none, _ => .swd

theorem engine_of_unit {i : Instr} {u : BlockUnit} (h : i.unit? = some u) : engine i = u := by
  rw [engine, h]

/-- Every instruction completes, and moves the wires of its engine only. -/
theorem exec_runs (i : Instr) : RunsBy (engine i) (exec i) := by
  intro s
  cases i with
  | crcInit | crcUpdate | crcFinal | qspiGetMode | qmodeStandard | qmodeDualOut | qmodeDualIo | qmodeQuadOut
  | qmodeQuadIo | qmodeQpi => exact ⟨_, rfl, .still _ _⟩
  | qspiInit => exact execQspiInit_runs s
  | qspiCsLow => exact ⟨_, rfl, .select false _⟩
  | qspiCsHigh => exact ⟨_, rfl, .select true _⟩
  | qspiSetMode => exact execQspiSetMode_runs s
  | qspiSendAddress => exact execQspiSendAddress_runs s
  | qspiSendDummy => exact execQspiSendDummy_runs s
  | qspiReadData => exact execQspiReadData_runs s
  | qspiTransfer => exact execQspiTransfer_runs s
  | qspiSendCommand | qspiWriteData => exact ⟨_, rfl, (txw_moves _ _ s).returnOk⟩
  | qpiEnterByte => exact ⟨_, rfl, txw_moves .one _ s⟩
  | qpiExitByte => exact ⟨_, rfl, txw_moves .four _ s⟩
  | qspiEnterQpi | qspiExitQpi => exact ⟨_, rfl, (switchMode_moves _ _ _ s).returnOk⟩
  | swdInit => exact ⟨_, rfl, ((swdConnect_moves _ s).trans (swdXfer_moves _ _ _)).returnData⟩
  | swdReadDp => exact ⟨_, rfl, (swdXfer_moves _ _ s).returnData⟩
  | swdWriteDp => exact ⟨_, rfl, (swdXfer_moves _ _ s).returnDone⟩
  | swdReadAp =>
    exact ⟨_, rfl, ((swdXfer_moves _ _ s).andThen fun t => (swdXfer_moves _ _ t).andThen (swdXfer_moves _ _)).returnData⟩
  | swdWriteAp => exact ⟨_, rfl, ((swdXfer_moves _ _ s).andThen (swdXfer_moves _ _)).returnDone⟩
  | swdTurnaround => exact ⟨_, rfl, (turnAround_moves s).returnOk⟩
  | swdRequest | swdHdrDpRead0 | swdHdrDpRead4 | swdHdrDpRead8 | swdHdrDpReadC | swdHdrDpWrite0 | swdHdrDpWrite4
  | swdHdrDpWrite8 | swdHdrDpWriteC | swdHdrApRead0 | swdHdrApRead4 | swdHdrApRead8 | swdHdrApReadC | swdHdrApWrite0
  | swdHdrApWrite4 | swdHdrApWrite8 | swdHdrApWriteC => exact ⟨_, rfl, sendHeader_moves _ s⟩
  | swdAckOk | swdAckBad0 | swdAckBad2 | swdAckBad3 | swdAckBad4 | swdAckBad5 | swdAckBad6 | swdAckBad7 =>
    exact ⟨_, rfl, presentAck_moves _ s⟩

/-! ## How an instruction ends -/

theorem failClearsResult_returnFail (s : State) : FailClearsResult (returnFail s) := fun _ => rfl

theorem sendHeader_failClearsResult (b : Byte) {s : State} (h : FailClearsResult s) :
    FailClearsResult (sendHeader b s) := by
  rw [sendHeader_eq]
  exact h

theorem txw_failClearsResult (w : Width) (b : Byte) {s : State} (h : FailClearsResult s) :
    FailClearsResult (txw w b s) := by
  rw [txw_eq]
  exact h

theorem presentAck_failClearsResult (ack : BitVec 3) {s : State} (h : FailClearsResult s) :
    FailClearsResult (presentAck ack s) := by
  rw [presentAck_eq]
  split
  · exact h
  · exact failClearsResult_returnFail _

/-- An operation ends with `STATUS` 0 or with the failure; a wire row leaves `STATUS` and `RES`, or fails. -/
theorem exec_failClearsResult {i : Instr} {s t : State} (h : FailClearsResult s) (ht : exec i s = .next t) :
    FailClearsResult t := by
  by_cases hop : i.isOperation = true
  · obtain ⟨t', ht', hend⟩ := statusAndResultOfEveryOperation.2.2.1 i s hop
    cases ht.symm.trans ht'
    rcases hend with h0 | ⟨-, hres⟩
    · exact fun h1 => absurd (h0.symm.trans h1) (by decide)
    · exact fun _ => hres
  · cases i with
    | qmodeStandard | qmodeDualOut | qmodeDualIo | qmodeQuadOut | qmodeQuadIo | qmodeQpi => cases ht; exact h
    | qpiEnterByte => cases ht; exact txw_failClearsResult .one _ h
    | qpiExitByte => cases ht; exact txw_failClearsResult .four _ h
    | swdRequest | swdHdrDpRead0 | swdHdrDpRead4 | swdHdrDpRead8 | swdHdrDpReadC | swdHdrDpWrite0 | swdHdrDpWrite4
    | swdHdrDpWrite8 | swdHdrDpWriteC | swdHdrApRead0 | swdHdrApRead4 | swdHdrApRead8 | swdHdrApReadC | swdHdrApWrite0
    | swdHdrApWrite4 | swdHdrApWrite8 | swdHdrApWriteC => cases ht; exact sendHeader_failClearsResult _ h
    | swdAckOk | swdAckBad0 | swdAckBad2 | swdAckBad3 | swdAckBad4 | swdAckBad5 | swdAckBad6 | swdAckBad7 =>
      cases ht; exact presentAck_failClearsResult _ h
    | _ => exact absurd rfl hop

theorem exec_keepsInvariant {i : Instr} {s t : State} (h : StateInvariant s) (ht : exec i s = .next t) :
    StateInvariant t := by
  obtain ⟨hfail, hwires⟩ := (stateInvariant_iff s).mp h
  obtain ⟨t', ht', hmoves⟩ := exec_runs i s
  cases ht.symm.trans ht'
  exact (stateInvariant_iff t).mpr ⟨exec_failClearsResult hfail ht, hmoves.sound hwires⟩

/-! ## Every step -/

/-- Settles O3: after reset nothing is driven and the trace is empty. -/
theorem resetMeetsTheInvariant : Obligations.ResetMeetsTheInvariant :=
  ⟨by decide, by decide, by decide, by decide, rfl, rfl⟩

/-- The invariant does not look at the operands, nor at what the outside will do. -/
theorem StateInvariant.acceptWord {s : State} (h : StateInvariant s) (w : PortWord) (rest : List Input) :
    StateInvariant (acceptWord w { s with inbox := rest }) := by
  cases w <;> exact h

/-- The reset event leaves the block and the trace of `State.reset`. -/
theorem stateInvariant_resetEvent (s : State) : StateInvariant (resetEvent s) :=
  resetMeetsTheInvariant

/-- A rejected word that does not stop the machine fails. -/
theorem onReject_keepsInvariant {e : Reject} {s t : State} (h : StateInvariant s) (ht : onReject e s = .next t) :
    StateInvariant t := by
  cases e with
  | undefinedOpcode c =>
    cases ht
    exact ⟨failClearsResult_returnFail s, h.2⟩
  | _ => cases ht

/-- Settles O4: every engine's moves keep what the invariant says of the wires, and every ending clears a failed result. -/
theorem stepKeepsTheInvariant : Obligations.StepKeepsTheInvariant := by
  intro s t h ht
  rcases hin : s.inbox with _ | ⟨w | _, rest⟩
  · cases (step_of_idle hin).symm.trans ht
    exact h
  · cases hd : decode w with
    | ok i => exact exec_keepsInvariant (h.acceptWord w rest) ((step_of_decoded hin hd).symm.trans ht)
    | error e => exact onReject_keepsInvariant (h.acceptWord w rest) ((step_of_rejected hin hd).symm.trans ht)
  · cases (step_of_reset hin).symm.trans ht
    exact stateInvariant_resetEvent _

/-- Settles O6: every row has a meaning that completes, and an undefined operation code is refused. -/
theorem everythingRunsToCompletion : Obligations.EverythingRunsToCompletion := by
  have hexec (i : Instr) (s : State) : ∃ t, exec i s = .next t :=
    (exec_runs i s).imp fun _ => And.left
  refine ⟨hexec, fun s r rest hs => ?_⟩
  cases hd : decode (.request r) with
  | ok i =>
    rw [step_of_decoded hs hd]
    exact hexec i _
  | error e => exact ⟨_, (step_of_rejected hs hd).trans (onReject_of_decodeOpcode hd _)⟩

/-- Settles O16: the moves of an engine add events of its own alphabet. -/
theorem traceGrowsInItsOwnAlphabet : Obligations.TraceGrowsInItsOwnAlphabet := by
  intro i s
  obtain ⟨t, ht, hmoves⟩ := exec_runs i s
  obtain ⟨e, htrace, hown⟩ := hmoves.trace
  have hunit {u : BlockUnit} (hu : i.unit? = some u) : OwnEvents u e := engine_of_unit hu ▸ hown
  exact ⟨t, e, ht, htrace, hunit, hunit, hunit⟩

end Sys2Proof.Machine

/-! The CRC unit as a linear map (40_crc.md): one bit of the generator is linear and loses nothing, so a step is eight of
them, four bytes are thirty-two, and the checks of a frame are facts about one accumulator. -/

namespace Sys2Proof.Machine

/-! ## Bits of the generator (40_crc.md R113, R114) -/

/-- n bit steps of the generator. -/
def crcBits (n : Nat) (c : Word) : Word := loop n (fun _ c => crcBitStep c) c

theorem crcBits_succ (n : Nat) (c : Word) : crcBits (n + 1) c = crcBitStep (crcBits n c) := rfl

theorem crcBits_add (m n : Nat) (c : Word) : crcBits (m + n) c = crcBits m (crcBits n c) := by
  induction m with
  | zero => rw [Nat.zero_add]; rfl
  | succ m ih => rw [Nat.succ_add, crcBits_succ, crcBits_succ, ih]

/-- One bit step is linear. -/
theorem crcBitStep_xor (x y : Word) : crcBitStep (x ^^^ y) = crcBitStep x ^^^ crcBitStep y := by
  simp only [crcBitStep, BitVec.getLsbD_xor, BitVec.ushiftRight_xor_distrib]
  cases x.getLsbD 0 <;> cases y.getLsbD 0
  case false.false => rfl
  case false.true => exact BitVec.xor_assoc _ _ _
  case true.false =>
    simp only [Bool.xor_false, if_true, Bool.false_eq_true, if_false]
    rw [BitVec.xor_assoc, BitVec.xor_comm (y >>> 1), BitVec.xor_assoc]
  case true.true =>
    simp only [Bool.xor_true, Bool.not_true, Bool.false_eq_true, if_false, if_true]
    rw [BitVec.xor_assoc, BitVec.xor_comm (y >>> 1), ← BitVec.xor_assoc Config.crcPolyReflected, BitVec.xor_self,
      BitVec.zero_xor]

theorem crcBits_xor (n : Nat) (x y : Word) : crcBits n (x ^^^ y) = crcBits n x ^^^ crcBits n y := by
  induction n with
  | zero => rfl
  | succ n ih => rw [crcBits_succ, ih, crcBitStep_xor, crcBits_succ, crcBits_succ]

/-- The polynomial's top bit shows that a bit step does not send anything but 0 to 0. -/
theorem eq_zero_of_crcBitStep_eq_zero {x : Word} (h : crcBitStep x = 0#32) : x = 0#32 := by
  have hbit (i : Nat) := congrArg (fun w : Word => w.getLsbD i) h
  cases h0 : x.getLsbD 0 with
  | true =>
    have htop := hbit 31
    have hpoly : Config.crcPolyReflected.getLsbD 31 = true := by decide
    simp only [crcBitStep, h0, if_true, BitVec.getLsbD_xor, BitVec.getLsbD_ushiftRight, hpoly,
      BitVec.getLsbD_of_ge x (1 + 31) (by decide), BitVec.getLsbD_zero] at htop
    cases htop
  | false =>
    apply BitVec.eq_of_getLsbD_eq
    intro i hi
    rw [BitVec.getLsbD_zero]
    cases i with
    | zero => exact h0
    | succ i =>
      have hi' := hbit i
      simpa only [crcBitStep, h0, Bool.false_eq_true, if_false, BitVec.getLsbD_ushiftRight, BitVec.getLsbD_zero,
        Nat.add_comm 1 i] using hi'

theorem crcBitStep_injective : Function.Injective crcBitStep := fun x y h =>
  BitVec.xor_eq_zero_iff.mp (eq_zero_of_crcBitStep_eq_zero (by rw [crcBitStep_xor, h, BitVec.xor_self]))

theorem crcBits_injective (n : Nat) : Function.Injective (crcBits n) := by
  induction n with
  | zero => exact fun _ _ h => h
  | succ n ih => exact crcBitStep_injective.comp ih

/-- A word whose top bit is clear comes from its left shift. -/
theorem crcBitStep_shiftLeft {z : Word} (hz : z.getLsbD 31 = false) : crcBitStep (z <<< 1) = z := by
  have hbit : (z <<< 1).getLsbD 0 = false := by
    rw [BitVec.getLsbD_shiftLeft, decide_eq_true (Nat.zero_lt_one), Bool.not_true, Bool.and_false, Bool.false_and]
  rw [crcBitStep, hbit]
  simp only [Bool.false_eq_true, if_false]
  apply BitVec.eq_of_getLsbD_eq
  intro i hi
  rw [BitVec.getLsbD_ushiftRight, BitVec.getLsbD_shiftLeft, Nat.add_sub_cancel_left,
    decide_eq_false (by omega : ¬ 1 + i < 1)]
  by_cases htop : i = 31
  · rw [htop, hz, Bool.and_false]
  · rw [decide_eq_true (by omega : 1 + i < 32), Bool.not_false, Bool.true_and, Bool.true_and]

/-- The polynomial's top bit says which branch a word comes from. -/
theorem crcBitStep_surjective : Function.Surjective crcBitStep := by
  intro y
  cases hy : y.getLsbD 31 with
  | false => exact ⟨y <<< 1, crcBitStep_shiftLeft hy⟩
  | true =>
    have htop : (y ^^^ Config.crcPolyReflected).getLsbD 31 = false := by
      rw [BitVec.getLsbD_xor, hy]
      rfl
    have hone : crcBitStep 1#32 = Config.crcPolyReflected := by decide
    refine ⟨(y ^^^ Config.crcPolyReflected) <<< 1 ^^^ 1#32, ?_⟩
    rw [crcBitStep_xor, crcBitStep_shiftLeft htop, hone, BitVec.xor_assoc, BitVec.xor_self, BitVec.xor_zero]

theorem crcBits_surjective (n : Nat) : Function.Surjective (crcBits n) := by
  induction n with
  | zero => exact fun y => ⟨y, rfl⟩
  | succ n ih => exact crcBitStep_surjective.comp ih

/-- Bits that are 0 are shifted out with no exclusive or. -/
theorem crcBits_of_low_zero {n : Nat} {x : Word} (hx : ∀ i < n, x.getLsbD i = false) : crcBits n x = x >>> n := by
  induction n with
  | zero => rw [BitVec.ushiftRight_zero]; rfl
  | succ n ih =>
    have hbit : (x >>> n).getLsbD 0 = false := by
      rw [BitVec.getLsbD_ushiftRight]
      exact hx n (Nat.lt_succ_self n)
    rw [crcBits_succ, ih fun i hi => hx i (Nat.lt_succ_of_lt hi), crcBitStep, hbit, BitVec.shiftRight_add]
    rfl

/-! ## One byte (40_crc.md R112, R114) -/

/-- A word without its low byte. -/
theorem low_zero_xor_lowByte (x : Word) : ∀ i < 8, (x ^^^ (x.setWidth 8).setWidth 32).getLsbD i = false := by
  intro i hi
  have hi' : i < 32 := by omega
  simp [-BitVec.getLsbD_eq_getElem, BitVec.getLsbD_xor, BitVec.getLsbD_setWidth, hi, hi']

theorem ushiftRight_eight_xor_byte (x : Word) (b : Byte) : (x ^^^ b.setWidth 32) >>> 8 = x >>> 8 := by
  have hb : b.setWidth 32 >>> 8 = 0#32 := by
    apply BitVec.eq_of_getLsbD_eq
    intro i hi
    rw [BitVec.getLsbD_ushiftRight, BitVec.getLsbD_setWidth, BitVec.getLsbD_of_ge b _ (by omega), Bool.and_false,
      BitVec.getLsbD_zero]
  rw [BitVec.ushiftRight_xor_distrib, hb, BitVec.xor_zero]

/-- The table looks up what the low byte becomes in eight bit steps; the other bits are only shifted (R114). -/
theorem crcStep_eq_crcBits (acc : Word) (b : Byte) : crcStep acc b = crcBits 8 (acc ^^^ b.setWidth 32) := by
  have split (x : Word) : crcBits 8 x = (x >>> 8) ^^^ crcEntry (x.setWidth 8) := by
    calc crcBits 8 x
        = crcBits 8 ((x ^^^ (x.setWidth 8).setWidth 32) ^^^ (x.setWidth 8).setWidth 32) := by
          rw [BitVec.xor_assoc, BitVec.xor_self, BitVec.xor_zero]
      _ = (x ^^^ (x.setWidth 8).setWidth 32) >>> 8 ^^^ crcGenerated (x.setWidth 8) := by
          rw [crcBits_xor, crcBits_of_low_zero (low_zero_xor_lowByte x)]
          rfl
      _ = (x >>> 8) ^^^ crcEntry (x.setWidth 8) := by
          rw [ushiftRight_eight_xor_byte, crcEntry_eq_crcGenerated]
  rw [split, ushiftRight_eight_xor_byte, crcStep]

/-- Settles O19: both are eight bit steps of the same word. -/
theorem crcStepIsBitSerial : Obligations.CrcStepIsBitSerial :=
  crcStep_eq_crcBits

theorem crcStep_injective (b : Byte) : Function.Injective fun acc => crcStep acc b := by
  intro x y h
  simp only [crcStep_eq_crcBits] at h
  exact (BitVec.xor_left_inj _).mp (crcBits_injective 8 h)

theorem crcStep_injective_byte (acc : Word) : Function.Injective (crcStep acc) := by
  intro x y h
  simp only [crcStep_eq_crcBits] at h
  have hword := (BitVec.xor_right_inj _).mp (crcBits_injective 8 h)
  have hbyte := congrArg (BitVec.setWidth 8) hword
  simpa using hbyte

theorem crcStep_surjective (b : Byte) : Function.Surjective fun acc => crcStep acc b := by
  intro c
  obtain ⟨x, hx⟩ := crcBits_surjective 8 c
  refine ⟨x ^^^ b.setWidth 32, ?_⟩
  dsimp only
  rw [crcStep_eq_crcBits, BitVec.xor_assoc, BitVec.xor_self, BitVec.xor_zero, hx]

/-- Settles O25: a step is eight bit steps, each a bijection, after an exclusive or. -/
theorem crcStepLosesNothing : Obligations.CrcStepLosesNothing :=
  ⟨fun b _ _ h => crcStep_injective b h, crcStep_surjective, fun acc _ _ h => crcStep_injective_byte acc h⟩

/-! ## Sequences (40_crc.md R119) -/

theorem crcFold_injective (m : List Byte) : Function.Injective fun acc => crcFold acc m := by
  induction m with
  | nil => exact fun _ _ h => h
  | cons b m ih => exact ih.comp (crcStep_injective b)

/-- One byte that differs leaves a different accumulator, whatever follows it. -/
theorem crcFold_ne_of_byte_ne (acc : Word) (p q : List Byte) {x y : Byte} (h : x ≠ y) :
    crcFold acc (p ++ x :: q) ≠ crcFold acc (p ++ y :: q) := by
  rw [crcFold_append, crcFold_append, crcFold_cons, crcFold_cons]
  exact fun hfold => h (crcStep_injective_byte _ (crcFold_injective q hfold))

/-! ## The four bytes of a CRC (20_memory.md R62, R63) -/

/-- A byte fed after n bit steps is the byte at bit n fed before them. -/
theorem crcStep_crcBits {n : Nat} (hn : n + 8 ≤ 32) (x : Word) (b : Byte) :
    crcStep (crcBits n x) b = crcBits (8 + n) (x ^^^ b.setWidth 32 <<< n) := by
  have hbyte : crcBits n (b.setWidth 32 <<< n) = b.setWidth 32 := by
    rw [crcBits_of_low_zero fun i hi => by simp [-BitVec.getLsbD_eq_getElem, hi]]
    apply BitVec.eq_of_getLsbD_eq
    intro i hi
    rw [BitVec.getLsbD_ushiftRight, BitVec.getLsbD_shiftLeft, Nat.add_sub_cancel_left]
    by_cases h : i < 8
    · have : n + i < 32 := by omega
      simp [-BitVec.getLsbD_eq_getElem, this]
    · simp [-BitVec.getLsbD_eq_getElem, BitVec.getLsbD_of_ge b i (by omega)]
  rw [crcStep_eq_crcBits, crcBits_add, crcBits_xor n, hbyte]

/-- Where each bit of a little-endian word comes from. -/
theorem getLsbD_ofLittleEndian32 (b0 b1 b2 b3 : Byte) (i : Nat) :
    (ofLittleEndian32 b0 b1 b2 b3).getLsbD i
      = if i < 8 then b0.getLsbD i else if i - 8 < 8 then b1.getLsbD (i - 8)
        else if i - 8 - 8 < 8 then b2.getLsbD (i - 8 - 8) else b3.getLsbD (i - 8 - 8 - 8) := by
  have e : (ofLittleEndian32 b0 b1 b2 b3).getLsbD i
      = ((((b3 ++ b2 : BitVec (8 + 8)) ++ b1 : BitVec (8 + 8 + 8)) ++ b0 : BitVec (8 + 8 + 8 + 8))).getLsbD i := rfl
  rw [e, BitVec.getLsbD_append, BitVec.getLsbD_append, BitVec.getLsbD_append]

/-- Four bytes, the first at bit 0. -/
theorem ofLittleEndian32_eq_xor (b0 b1 b2 b3 : Byte) :
    ofLittleEndian32 b0 b1 b2 b3
      = b0.setWidth 32 ^^^ b1.setWidth 32 <<< 8 ^^^ b2.setWidth 32 <<< 16 ^^^ b3.setWidth 32 <<< 24 := by
  apply BitVec.eq_of_getLsbD_eq
  intro i hi
  have beyond (b : Byte) (j : Nat) (hj : 8 ≤ j) : b.getLsbD j = false := BitVec.getLsbD_of_ge b j hj
  rw [getLsbD_ofLittleEndian32]
  simp only [BitVec.getLsbD_xor, BitVec.getLsbD_shiftLeft, BitVec.getLsbD_setWidth, Nat.sub_sub]
  grind

/-- Four bytes fed are 32 bit steps after an exclusive or with their little-endian word. -/
theorem crcFold_four (acc : Word) (b0 b1 b2 b3 : Byte) :
    crcFold acc [b0, b1, b2, b3] = crcBits 32 (acc ^^^ ofLittleEndian32 b0 b1 b2 b3) := by
  rw [ofLittleEndian32_eq_xor]
  simp only [crcFold_cons, crcFold_nil, crcStep_eq_crcBits acc]
  rw [crcStep_crcBits (by decide), crcStep_crcBits (by decide), crcStep_crcBits (by decide)]
  simp only [BitVec.xor_assoc]

theorem ofLittleEndian32_byteOf (w : Word) :
    ofLittleEndian32 (byteOf w 0) (byteOf w 1) (byteOf w 2) (byteOf w 3) = w := by
  apply BitVec.eq_of_getLsbD_eq
  intro i hi
  rw [getLsbD_ofLittleEndian32]
  simp only [byteOf, BitVec.getLsbD_extractLsb', Nat.sub_sub]
  grind

set_option maxRecDepth 2048 in
/-- The residue is what 32 bit steps make of the initial value (40_crc.md R119 (c)). -/
theorem crcBits_residue : crcBits 32 Config.crcXorOut = crcResidue := by
  decide

/-- The check value of R119 (b). -/
theorem crc32_digits :
    crc32 [0x31#8, 0x32#8, 0x33#8, 0x34#8, 0x35#8, 0x36#8, 0x37#8, 0x38#8, 0x39#8] = 0xCBF43926#32 := by
  decide

/-- The four bytes after a message leave the residue exactly when they are its CRC. -/
theorem crcFold_append_four_eq_residue_iff (m : List Byte) (b0 b1 b2 b3 : Byte) :
    crcFold Config.crcInitValue (m ++ [b0, b1, b2, b3]) = crcResidue ↔ crc32 m = ofLittleEndian32 b0 b1 b2 b3 := by
  rw [crcFold_append, crcFold_four, ← crcBits_residue, (crcBits_injective 32).eq_iff, crcFold_of_crc32, BitVec.xor_assoc,
    BitVec.xor_comm Config.crcXorOut, ← BitVec.xor_assoc]
  constructor
  · intro h
    exact BitVec.xor_eq_zero_iff.mp ((BitVec.xor_left_inj _).mp (h.trans BitVec.zero_xor.symm))
  · intro h
    rw [h, BitVec.xor_self, BitVec.zero_xor]

/-- The accumulator of a message followed by its CRC (R119 (c)). -/
theorem crcFold_append_crc32 (m : List Byte) :
    crcFold Config.crcInitValue (m ++ littleEndian32 (crc32 m)) = crcResidue :=
  (crcFold_append_four_eq_residue_iff m _ _ _ _).mpr (ofLittleEndian32_byteOf (crc32 m)).symm

/-- Settles O24: the two values by evaluation; the residue for every message by linearity. -/
theorem crcResidueOfEveryMessage : Obligations.CrcResidueOfEveryMessage := by
  refine ⟨rfl, crc32_digits, fun m => ⟨crcFold_append_crc32 m, ?_⟩⟩
  rw [crc32, crcFold_append_crc32]
  rfl

/-! ## The check on receipt (20_memory.md R63) -/

theorem frameAccepted_append (body : List Byte) (b0 b1 b2 b3 : Byte) :
    frameAccepted (body ++ [b0, b1, b2, b3]) = (crc32 body == ofLittleEndian32 b0 b1 b2 b3) := by
  simp [frameAccepted]

/-- A sequence of at least four bytes is a body and the four bytes of its CRC field. -/
theorem exists_body_append_four {bytes : List Byte} (h : 4 ≤ bytes.length) :
    ∃ body b0 b1 b2 b3, bytes = body ++ [b0, b1, b2, b3] := by
  have hlen : (bytes.drop (bytes.length - 4)).length = 4 := by
    rw [List.length_drop]
    omega
  match hfield : bytes.drop (bytes.length - 4), hlen with
  | [b0, b1, b2, b3], _ =>
    exact ⟨bytes.take (bytes.length - 4), b0, b1, b2, b3, by rw [← hfield, List.take_append_drop]⟩

/-- The check is the residue test. -/
theorem frameAccepted_iff {bytes : List Byte} (h : 4 ≤ bytes.length) :
    frameAccepted bytes = true ↔ crcFold Config.crcInitValue bytes = crcResidue := by
  obtain ⟨body, b0, b1, b2, b3, rfl⟩ := exists_body_append_four h
  rw [frameAccepted_append, beq_iff_eq, crcFold_append_four_eq_residue_iff]

theorem crcFold_frame (sof : Byte) (p : Packet) : crcFold Config.crcInitValue (frame sof p) = crcResidue :=
  crcFold_append_crc32 (frameCrcInput sof p)

theorem four_le_length_frame (sof : Byte) (p : Packet) : 4 ≤ (frame sof p).length := by
  rw [length_frame]
  omega

/-- Settles O28: a frame is its CRC input followed by its CRC. -/
theorem frameCheckIsTheResidueTest : Obligations.FrameCheckIsTheResidueTest :=
  ⟨fun sof p => (frameAccepted_iff (four_le_length_frame sof p)).mpr (crcFold_frame sof p), fun _ => frameAccepted_iff⟩

/-- One byte replaced by another value. -/
theorem crcFold_set_ne {l : List Byte} {k : Nat} {v : Byte} (hk : k < l.length) (hv : v ≠ l[k]) (acc : Word) :
    crcFold acc (l.set k v) ≠ crcFold acc l := by
  have parts (x : Byte) : l.set k x = l.take k ++ x :: l.drop (k + 1) := by
    rw [List.set_eq_take_append_cons_drop, if_pos hk]
  have hne := crcFold_ne_of_byte_ne acc (l.take k) (l.drop (k + 1)) hv
  rwa [← parts, ← parts, List.set_getElem_self] at hne

/-- Settles O26: one byte that differs changes the accumulator; for a frame it is then not the residue any more. -/
theorem oneCorruptedByteIsDetected : Obligations.OneCorruptedByteIsDetected := by
  refine ⟨fun p q x y hxy heq => ?sequences, fun sof p k v hk hv => ?frames⟩
  case sequences =>
    rw [List.append_assoc, List.append_assoc] at heq
    exact crcFold_ne_of_byte_ne _ p q hxy ((BitVec.xor_left_inj _).mp heq)
  case frames =>
    have hbyte : v ≠ (frame sof p)[k] := fun h => hv (by rw [h, List.getElem?_eq_getElem hk])
    rw [Bool.eq_false_iff, Ne, frameAccepted_iff (by simpa using four_le_length_frame sof p), ← crcFold_frame sof p]
    exact crcFold_set_ne hk hbyte _

/-! ## The script (30_encoding.md R100) -/

/-- The state in which a script's `CRC_INIT` leaves the machine, with the rest of the script still to do. -/
def afterCrcInit (rest : List Input) (s : State) : State :=
  returnOk { s with opA := 0, opB := 0, inbox := rest, crcAcc := Config.crcInitValue }

/-- The state in which a script's `CRC_UPDATE` leaves the machine, with the rest of the script still to do. -/
def afterCrcUpdate (b : Byte) (rest : List Input) (s : State) : State :=
  returnOk { s with opA := b.setWidth 32, opB := 0, inbox := rest, crcAcc := crcStep s.crcAcc b }

theorem step_crcUpdate {b : Byte} {s : State} {rest : List Input}
    (hs : s.inbox = request .crcUpdate (b.setWidth 32) 0 :: rest) :
    step s = .next (afterCrcUpdate b rest s) := by
  refine (step_request rfl rfl hs).trans ?_
  simp only [exec, execCrcUpdate, opByte_setWidth, afterCrcUpdate]

/-- The rows of the other units and the outside, which a CRC script does not touch. -/
def KeepsPins (s t : State) : Prop := SameQspi s t ∧ SameSwd s t ∧ SameEnvironment s t ∧ t.trace = s.trace

/-- The updates of a message fold it into the accumulator, by induction on the message. -/
theorem steps_crcUpdates (m : List Byte) (n : Nat) (s : State) (rest : List Input)
    (hs : s.inbox = m.map (fun b => request .crcUpdate (b.setWidth 32) 0) ++ rest) :
    ∃ t, steps (m.length + n) s = steps n t ∧ t.crcAcc = crcFold s.crcAcc m ∧ t.inbox = rest ∧ KeepsPins s t := by
  induction m generalizing s with
  | nil => exact ⟨s, by rw [List.length_nil, Nat.zero_add], rfl, hs, ⟨rfl, rfl, rfl, rfl⟩, ⟨rfl, rfl⟩, ⟨rfl, rfl⟩, rfl⟩
  | cons b m ih =>
    obtain ⟨t, ht, hacc, hinbox, hpins⟩ := ih (afterCrcUpdate b _ s) rfl
    refine ⟨t, ?_, hacc, hinbox, hpins⟩
    rw [List.length_cons, Nat.succ_add]
    exact (steps_succ (step_crcUpdate hs) _).trans ht

/-- Settles O23: the accumulator is initialised, the message folded in, and the final exclusive or returned. -/
theorem crcScriptComputesTheFunction : Obligations.CrcScriptComputesTheFunction := by
  intro m s rest hs
  rw [crc32Script, List.append_assoc, List.append_assoc] at hs
  obtain ⟨t, ht, hacc, hinbox, hqspi, hswd, henv, htrace⟩ :=
    steps_crcUpdates m 1 (afterCrcInit _ s) (request .crcFinal 0 0 :: rest) rfl
  have hinit : step s = .next (afterCrcInit _ s) := step_request rfl rfl hs
  have hfinal : step t = .next (returnValue (crc32 m) { t with opA := 0, opB := 0, inbox := rest }) := by
    refine (step_request (i := .crcFinal) rfl rfl hinbox).trans ?_
    simp only [exec, execCrcFinal, hacc]
    rfl
  exact ⟨_, ((steps_succ hinit _).trans ht).trans (steps_succ hfinal 0), rfl, rfl, hacc.trans (crcFold_of_crc32 m), rfl, hqspi, hswd,
    henv, htrace⟩

end Sys2Proof.Machine

/-! The QSPI engine counted and moved (41_qspi.md, section 6; 30_encoding.md R100): the pulses of each operation, a byte
written and read back, the full-duplex buffer; and which operations never fail. -/

namespace Sys2Proof.Machine

/-! ## Pulses (41_qspi.md R168) -/

theorem pulses_append (d e : List Event) : pulses (d ++ e) = pulses d + pulses e := List.countP_append

/-- A trace of pulses alone has as many pulses as events. -/
theorem pulses_eq_length {e : List Event} (he : ∀ x ∈ e, x.isPulse = true) : pulses e = e.length :=
  List.countP_eq_length.mpr he

/-- A byte takes `8/w` pulses (R168). -/
theorem pulses_wireOut (w : Width) (b : Byte) : pulses (wireOut w b) = 8 / w.lanes := by
  rw [pulses_eq_length (isPulse_of_mem_wireOut w b)]
  cases w <;> simp [wireOut, wire1, wire2, wire4, Width.lanes]

theorem pulses_wireIn (w : Width) (b : Byte) : pulses (wireIn w b) = 8 / w.lanes := by
  rw [pulses_eq_length (isPulse_of_mem_wireIn w b)]
  cases w <;> simp [wireIn, Width.lanes]

theorem pulses_wireDuplex (o i : Byte) : pulses (wireDuplex o i) = 8 :=
  pulses_eq_length (isPulse_of_mem_wireDuplex o i)

theorem pulses_flatMap_wireOut (w : Width) (m : List Byte) : pulses (m.flatMap (wireOut w)) = m.length * (8 / w.lanes) := by
  induction m with
  | nil => rw [List.length_nil, Nat.zero_mul]; rfl
  | cons b m ih => rw [List.flatMap_cons, pulses_append, pulses_wireOut, ih, List.length_cons, Nat.succ_mul, Nat.add_comm]

theorem length_addressBytes {n : Nat} (hn : n = 3 ∨ n = 4) (addr : Word) : (addressBytes n addr).length = n := by
  rcases hn with rfl | rfl <;> rfl

/-- The operation completes from `s` and adds n pulses to the wire trace. -/
def AddsPulses (op : Operation) (s : State) (n : Nat) : Prop :=
  ∃ t, op s = .next t ∧ pulses t.trace = pulses s.trace + n

theorem addsPulses_of_trace {op : Operation} {s t : State} {e : List Event} {n : Nat} (ht : op s = .next t)
    (htrace : t.trace = s.trace ++ e) (hn : pulses e = n) : AddsPulses op s n :=
  ⟨t, ht, by rw [htrace, pulses_append, hn]⟩

theorem execQspiSendCommand_pulses (s : State) : AddsPulses execQspiSendCommand s (8 / (cmdw s.qmode).lanes) :=
  addsPulses_of_trace (execQspiSendCommand_eq s) rfl (pulses_wireOut _ _)

theorem execQspiSendAddress_pulses {s : State} {n : Nat} (hn : n = 3 ∨ n = 4) (h : s.opB = BitVec.ofNat 32 n) :
    AddsPulses execQspiSendAddress s (n * (8 / (addrw s.qmode).lanes)) := by
  have hlegal : s.opB = 3#32 ∨ s.opB = 4#32 := hn.imp (fun k => by rw [h, k]) (fun k => by rw [h, k])
  have hlen : s.opB.toNat = n := by rcases hn with rfl | rfl <;> rw [h] <;> rfl
  refine addsPulses_of_trace (execQspiSendAddress_sent hlegal) rfl ?_
  rw [pulses_flatMap_wireOut, hlen, length_addressBytes hn]

theorem execQspiWriteData_pulses (s : State) : AddsPulses execQspiWriteData s (8 / (dataw s.qmode).lanes) :=
  addsPulses_of_trace (execQspiWriteData_eq s) rfl (pulses_wireOut _ _)

theorem execQspiReadData_pulses (s : State) : AddsPulses execQspiReadData s (8 / (dataw s.qmode).lanes) :=
  addsPulses_of_trace (execQspiReadData_eq s) rfl (pulses_wireIn _ _)

theorem execQspiTransfer_pulses (s : State) : AddsPulses execQspiTransfer s (if s.qmode = .standard then 8 else 0) := by
  split
  next h => exact addsPulses_of_trace (execQspiTransfer_standard h) rfl (pulses_wireDuplex _ _)
  next h => exact addsPulses_of_trace (execQspiTransfer_refused h) (List.append_nil _).symm rfl

theorem execQspiSendDummy_pulses (s : State) : AddsPulses execQspiSendDummy s s.opA.toNat :=
  addsPulses_of_trace (execQspiSendDummy_eq s) rfl <|
    (pulses_eq_length fun _ hx => by rw [List.eq_of_mem_replicate hx]; rfl).trans List.length_replicate

theorem switchMode_pulses (temporary committed : Mode) (cmd : Byte) (s : State) :
    AddsPulses (fun s => .next (returnOk (switchMode temporary committed cmd s))) s (8 / (cmdw temporary).lanes) := by
  refine addsPulses_of_trace rfl ?_ (pulses_wireOut (cmdw temporary) cmd)
  rw [switchMode_eq]
  rfl

theorem execQspiSetMode_pulses (s : State) : AddsPulses execQspiSetMode s 0 := by
  rcases execQspiSetMode_cases s.opA with h | ⟨m, h⟩
  · exact ⟨_, h s rfl, rfl⟩
  · exact ⟨_, h s rfl, rfl⟩

/-- A select event is no pulse. -/
theorem pulses_select (v : Level) (s : State) : pulses (driveQcs v s).trace = pulses s.trace := by
  rw [driveQcs_trace, pulses_append]
  cases v <;> rfl

/-- Settles O43: each phase takes `8/w` pulses a byte, at the widths of the mode. -/
theorem pulsesPerOperation : Obligations.PulsesPerOperation := by
  refine ⟨fun r hr s hs => ?phases, execQspiSendDummy_pulses, switchMode_pulses .standard .qpi _,
    switchMode_pulses .qpi .standard _, ?setUp⟩
  case phases =>
    have hcounts : ∀ r ∈ [(Mode.standard, 8, 24, 32, 8), (.dualOut, 8, 24, 32, 4), (.dualIo, 8, 12, 16, 4),
        (.quadOut, 8, 24, 32, 2), (.quadIo, 8, 6, 8, 2), (.qpi, 2, 6, 8, 2)],
        8 / (cmdw r.1).lanes = r.2.1 ∧ 3 * (8 / (addrw r.1).lanes) = r.2.2.1
          ∧ 4 * (8 / (addrw r.1).lanes) = r.2.2.2.1 ∧ 8 / (dataw r.1).lanes = r.2.2.2.2 := by decide
    obtain ⟨hcmd, haddr3, haddr4, hdata⟩ := hcounts r hr
    rw [← hs] at hcmd haddr3 haddr4 hdata
    rw [← hcmd, ← haddr3, ← haddr4, ← hdata]
    exact ⟨execQspiSendCommand_pulses s, execQspiSendAddress_pulses (.inl rfl), execQspiSendAddress_pulses (.inr rfl),
      execQspiWriteData_pulses s, execQspiReadData_pulses s, execQspiTransfer_pulses s⟩
  case setUp =>
    simp only [List.forall_mem_cons, List.not_mem_nil, false_implies, implies_true, and_true]
    exact ⟨fun s => ⟨_, rfl, pulses_select true s⟩, fun s => ⟨_, rfl, pulses_select false s⟩,
      fun s => ⟨_, rfl, pulses_select true s⟩, execQspiSetMode_pulses, fun s => ⟨_, rfl, rfl⟩⟩

/-! ## A byte written and read back (41_qspi.md R167) -/

/-- Whatever the width, a byte sent drives its bits in the order in which a byte received samples them. -/
theorem drivenLevels_wireOut (w : Width) (b : Byte) : (wireOut w b).flatMap Event.drivenLevels
    = (List.range 8).map fun i => b.getLsbD (7 - i) := by
  cases w with
  | one | two => rfl
  | four => simp [wireOut, wire4, Event.drivenLevels, List.range, List.range.loop]

theorem byteAt_of_answers {b : Byte} {u : State} {more : List Level} {w : Width}
    (hu : u.answers = (wireOut w b).flatMap Event.drivenLevels ++ more) : byteAt u = b := by
  rw [drivenLevels_wireOut] at hu
  rw [← ofLevels_getLsbD b, byteAt]
  refine ofLevels_congr fun i hi => ?_
  rw [levelAt_of_answers hu (7 - i) (by rw [List.length_map, List.length_range]; omega), List.getElem_map,
    List.getElem_range, Nat.sub_sub_self (Nat.le_of_lt_succ hi)]

/-- Settles O44: the read samples in the order in which the write drove. -/
theorem writeReadRoundTrip : Obligations.WriteReadRoundTrip := by
  intro s
  refine ⟨_, _, execQspiWriteData_eq s, rfl, pulses_wireOut _ _, fun u more hmode hu => ?_⟩
  have hbyte : byteAt u = opByte s.opA := byteAt_of_answers hu
  refine ⟨_, _, execQspiReadData_eq u, ?_, ?_, rfl, ?_⟩
  · rw [hbyte]
    exact setWidth_opByte s.opA
  · rw [drivenLevels_wireOut] at hu
    exact congrArg (List.drop 8) hu
  · rw [pulses_wireIn, hmode]

/-! ## The full-duplex buffer (30_encoding.md R100; 41_qspi.md R155) -/

/-- A script's `QSPI_TRANSFER` accepted, with the rest of the script still to do. -/
def acceptTransfer (b : Byte) (rest : List Input) (s : State) : State :=
  { s with opA := b.setWidth 32, opB := 0, inbox := rest }

/-- The state in which it leaves the machine in `STANDARD`. -/
def afterTransfer (b : Byte) (rest : List Input) (s : State) : State :=
  returnValue ((byteAt s).setWidth 32)
    (qspiLeft 8 { s.qio with io0 := Pin.drive (b.getLsbD 0), io1 := s.qio.io1.release } (wireDuplex b (byteAt s))
      (acceptTransfer b rest s))

section
variable {b : Byte} {s : State} {rest : List Input} (hs : s.inbox = request .qspiTransfer (b.setWidth 32) 0 :: rest)
include hs

theorem step_transfer (hmode : s.qmode = .standard) : step s = .next (afterTransfer b rest s) := by
  have hbyte : opByte (acceptTransfer b rest s).opA = b := opByte_setWidth b
  have hexec := execQspiTransfer_standard (s := acceptTransfer b rest s) hmode
  rw [hbyte] at hexec
  exact (step_request rfl rfl hs).trans hexec

theorem step_refusedTransfer (hmode : s.qmode ≠ .standard) :
    step s = .next (returnFail (acceptTransfer b rest s)) :=
  (step_request rfl rfl hs).trans (execQspiTransfer_refused (s := acceptTransfer b rest s) hmode)

end

/-- A transfer takes eight levels. -/
theorem bytesAt_afterTransfer (n : Nat) (b : Byte) (rest : List Input) (s : State) :
    bytesAt n (afterTransfer b rest s) = bytesAt n (consume 8 s) :=
  bytesAt_congr rfl rfl n

/-- A transferred buffer is its bytes on the wire, and the last byte received the result, by induction on the buffer. -/
theorem steps_qspiTransferBuf (m : List Byte) (s : State) (rest : List Input)
    (hs : s.inbox = qspiTransferBufScript m ++ rest) (hmode : s.qmode = .standard) :
    ∃ t, steps m.length s = .next t
      ∧ t.trace = s.trace ++ (List.zipWith wireDuplex m (bytesAt m.length s)).flatten
      ∧ t.inbox = rest ∧ t.qmode = s.qmode ∧ t.qcs = s.qcs
      ∧ (t.res, t.status) = ((bytesAt m.length s).getLast?.map fun b => (b.setWidth 32, 0#1)).getD (s.res, s.status) := by
  induction m generalizing s with
  | nil => exact ⟨s, rfl, (List.append_nil _).symm, hs, rfl, rfl, rfl⟩
  | cons b m ih =>
    obtain ⟨t, ht, htrace, hinbox, hmode', hcs, hend⟩ :=
      ih (afterTransfer b (qspiTransferBufScript m ++ rest) s) rfl hmode
    rw [bytesAt_afterTransfer] at htrace hend
    rw [List.length_cons, bytesAt_succ]
    refine ⟨t, (steps_succ (step_transfer hs hmode) _).trans ht, ?_, hinbox, hmode', hcs, ?_⟩
    · rw [htrace, List.zipWith_cons_cons, List.flatten_cons, ← List.append_assoc]
      rfl
    · rw [hend, List.getLast?_cons]
      cases (bytesAt m.length (consume 8 s)).getLast? <;> rfl

/-- The failure of a refused operation (30_encoding.md R81). -/
def Failed (s : State) : Prop := s.res = 0#32 ∧ s.status = 1#1

/-- Outside `STANDARD` every byte of a buffer is refused, by induction on the buffer. -/
theorem steps_refusedTransferBuf (m : List Byte) (s : State) (rest : List Input)
    (hs : s.inbox = qspiTransferBufScript m ++ rest) (hmode : s.qmode ≠ .standard) :
    ∃ t, steps m.length s = .next t ∧ t.trace = s.trace ∧ t.inbox = rest ∧ SameQspi s t ∧ SameEnvironment s t
      ∧ (Failed s ∨ m ≠ [] → Failed t) := by
  induction m generalizing s with
  | nil => exact ⟨s, rfl, rfl, hs, ⟨rfl, rfl, rfl, rfl⟩, ⟨rfl, rfl⟩, fun h => h.resolve_right fun hne => hne rfl⟩
  | cons b m ih =>
    obtain ⟨t, ht, htrace, hinbox, hqspi, henv, hfail⟩ :=
      ih (returnFail (acceptTransfer b (qspiTransferBufScript m ++ rest) s)) rfl hmode
    exact ⟨t, (steps_succ (step_refusedTransfer hs hmode) _).trans ht, htrace, hinbox, hqspi, henv,
      fun _ => hfail (.inl ⟨rfl, rfl⟩)⟩

/-- Settles O60: transferred byte by byte in `STANDARD`, refused byte by byte in any other mode. -/
theorem transferBuffersAreTheirBytes : Obligations.TransferBuffersAreTheirBytes := by
  refine fun m s rest hs => ⟨fun hmode => ?standard, fun hmode => ?other⟩
  case standard =>
    obtain ⟨t, ht, htrace, hinbox, hmode', hcs, hend⟩ := steps_qspiTransferBuf m s rest hs hmode
    refine ⟨t, ht, htrace, hinbox, hmode', hcs, fun b hb => ?_⟩
    rw [hb] at hend
    exact Prod.ext_iff.mp hend
  case other =>
    obtain ⟨t, ht, htrace, hinbox, hqspi, henv, hfail⟩ := steps_refusedTransferBuf m s rest hs hmode
    exact ⟨t, ht, htrace, hinbox, hqspi, henv, fun hne => hfail (.inr hne)⟩

/-! ## The operations that never fail (60_exceptions.md, section 1) -/

/-- Settles O13: each of them ends with `return OK`. -/
theorem operationsThatNeverFail : Obligations.OperationsThatNeverFail := by
  unfold Obligations.OperationsThatNeverFail
  simp only [List.forall_mem_cons, List.not_mem_nil, false_implies, implies_true, and_true]
  have ok (f : State → State) (s : State) :
      ∃ t, (Host.Outcome.next (returnOk (f s)) : Host.Outcome State Fault Refusal) = .next t ∧ t.status = 0#1 :=
    ⟨_, rfl, rfl⟩
  exact ⟨ok _, ok _, fun _ => ⟨_, rfl, rfl⟩, ok _, ok _, ok _, fun _ => ⟨_, rfl, rfl⟩, ok _, ok _, ok _,
    fun s => ⟨_, execQspiReadData_eq s, rfl⟩, ok _, ok _, ok _⟩

end Sys2Proof.Machine

/-! Bits of the operands that an operation does not read are ignored (30_encoding.md R83): an operation reads its operands
through their fields, and a field whose bits the mask lists is the same in operands that agree on the mask. -/

namespace Sys2Proof.Machine

/-! ## Fields and masks -/

/-- Operands that agree on a mask agree on every field of which the mask lists all bits. -/
theorem extractLsb'_of_and_eq {x y mask : Word} (h : x &&& mask = y &&& mask) {k n : Nat}
    (hmask : mask.extractLsb' k n = BitVec.allOnes n) : x.extractLsb' k n = y.extractLsb' k n := by
  have hfield := congrArg (BitVec.extractLsb' k n) h
  rwa [BitVec.extractLsb'_and, BitVec.extractLsb'_and, hmask, BitVec.and_allOnes, BitVec.and_allOnes] at hfield

theorem eq_of_and_allOnes_eq {x y : Word} (h : x &&& 0xFFFFFFFF#32 = y &&& 0xFFFFFFFF#32) : x = y := by
  have hmask : 0xFFFFFFFF#32 = BitVec.allOnes 32 := rfl
  rwa [hmask, BitVec.and_allOnes, BitVec.and_allOnes] at h

/-- The bank of an Access Port address is `OP_A[7:4]` (30_encoding.md R83, R97). -/
theorem bank_opApAddr (opA : Word) : (opApAddr opA).extractLsb' 4 4 = opA.extractLsb' 4 4 := by
  apply BitVec.eq_of_getLsbD_eq
  intro i hi
  simp [opApAddr, hi]

/-- Of an Access Port address the SELECT value takes the bank (30_encoding.md R97). -/
theorem selectValue_congr (apsel : Byte) {addr addr' : Byte} (h : addr.extractLsb' 4 4 = addr'.extractLsb' 4 4) :
    selectValue apsel addr = selectValue apsel addr' := by
  apply BitVec.eq_of_getLsbD_eq
  intro j hj
  rw [getLsbD_selectValue _ _ hj, getLsbD_selectValue _ _ hj]
  by_cases hbank : 4 ≤ j ∧ j < 8
  · have hbit := congrArg (fun v : BitVec 4 => v.getLsbD (j - 4)) h
    have hin : j - 4 < 4 := by omega
    have hpos : 4 + (j - 4) = j := by omega
    simp only [BitVec.getLsbD_extractLsb', hin, hpos, decide_true, Bool.true_and] at hbit
    rw [hbit]
  · rw [decide_eq_false hbank, Bool.false_and, Bool.false_and]

/-! ## The same effect for other operands -/

/-- With operands `a` and `b` the operation does from `s` what it does with those of `s`, but for the operands
themselves. -/
def Carries (op : Operation) (s : State) (a b : Word) : Prop :=
  ∃ t, op s = .next t ∧ op { s with opA := a, opB := b } = .next { t with opA := a, opB := b }

/-- What the environment decides does not depend on the operand registers. -/
theorem EnvDriven.returnData_withOperands {f : State → Xfer} (hf : EnvDriven f) (s : State) (a b : Word) :
    (f { s with opA := a, opB := b }).returnData = { (f s).returnData with opA := a, opB := b } := by
  obtain ⟨ok, data, n, dio, e, h⟩ := hf s
  rw [h s ⟨rfl, rfl⟩, h { s with opA := a, opB := b } ⟨rfl, rfl⟩]
  cases ok <;> rfl

/-- An access chosen by the operands, when `a` and `b` choose the same one. -/
theorem carries_of_envDriven {f : Word → Word → State → Xfer} (hf : ∀ a b, EnvDriven (f a b)) {s : State} {a b : Word}
    (hab : f a b = f s.opA s.opB) :
    Carries (fun s => .next (f s.opA s.opB s).returnData) s a b :=
  ⟨_, rfl, by rw [← (hf s.opA s.opB).returnData_withOperands, ← hab]⟩

/-- An Access Port operation reads `OP_A[15:2]` (30_encoding.md R83). -/
theorem accessPort_fields {x y : Word} (h : x &&& 0xFFFC#32 = y &&& 0xFFFC#32) :
    selectValue (opApSel x) (opApAddr x) = selectValue (opApSel y) (opApAddr y)
      ∧ headerAddr (opApAddr x) = headerAddr (opApAddr y) := by
  have hsel : opApSel x = opApSel y := extractLsb'_of_and_eq h rfl
  have hbank : x.extractLsb' 4 4 = y.extractLsb' 4 4 := extractLsb'_of_and_eq h rfl
  have haddr : x.extractLsb' 2 2 = y.extractLsb' 2 2 := extractLsb'_of_and_eq h rfl
  constructor
  · rw [hsel, selectValue_congr]
    rw [bank_opApAddr, bank_opApAddr, hbank]
  · rw [headerAddr_op, headerAddr_op, haddr]

theorem execCrcUpdate_carries {s : State} {a : Word} (b : Word) (h : opByte a = opByte s.opA) :
    Carries execCrcUpdate s a b :=
  ⟨_, rfl, by simp only [execCrcUpdate, h]; rfl⟩

theorem execQspiSetMode_carries (s : State) (b : Word) : Carries execQspiSetMode s s.opA b := by
  rcases execQspiSetMode_cases s.opA with h | ⟨m, h⟩
  · exact ⟨_, h s rfl, h _ rfl⟩
  · exact ⟨_, h s rfl, h _ rfl⟩

theorem execQspiSendCommand_carries {s : State} {a : Word} (b : Word) (h : opByte a = opByte s.opA) :
    Carries execQspiSendCommand s a b :=
  ⟨_, execQspiSendCommand_eq s, by rw [execQspiSendCommand_eq, h]; rfl⟩

theorem execQspiWriteData_carries {s : State} {a : Word} (b : Word) (h : opByte a = opByte s.opA) :
    Carries execQspiWriteData s a b :=
  ⟨_, execQspiWriteData_eq s, by rw [execQspiWriteData_eq, h]; rfl⟩

theorem execQspiSendAddress_carries (s : State) : Carries execQspiSendAddress s s.opA s.opB := by
  by_cases h : s.opB = 3#32 ∨ s.opB = 4#32
  · exact ⟨_, execQspiSendAddress_sent h, execQspiSendAddress_sent h⟩
  · exact ⟨_, execQspiSendAddress_refused h, execQspiSendAddress_refused h⟩

theorem execQspiTransfer_carries {s : State} {a : Word} (b : Word) (h : opByte a = opByte s.opA) :
    Carries execQspiTransfer s a b := by
  by_cases hmode : s.qmode = .standard
  · refine ⟨_, execQspiTransfer_standard hmode,
      (execQspiTransfer_standard (s := { s with opA := a, opB := b }) hmode).trans ?_⟩
    rw [h]
    rfl
  · exact ⟨_, execQspiTransfer_refused hmode,
      execQspiTransfer_refused (s := { s with opA := a, opB := b }) hmode⟩

theorem switchMode_carries (temporary committed : Mode) (cmd : Byte) (s : State) (a b : Word) :
    Carries (fun s => .next (returnOk (switchMode temporary committed cmd s))) s a b :=
  ⟨_, rfl, by simp only [switchMode_eq]; rfl⟩

/-- Every operation, operands agreeing on its mask. -/
theorem exec_carries {i : Instr} (hi : i.isOperation = true) {s : State} {a b : Word}
    (hA : s.opA &&& (operandMask i).1 = a &&& (operandMask i).1)
    (hB : s.opB &&& (operandMask i).2 = b &&& (operandMask i).2) : Carries (exec i) s a b := by
  have field {mask : Word} {k n : Nat} (h : s.opA &&& mask = a &&& mask) (hmask : mask.extractLsb' k n = BitVec.allOnes n) :
      a.extractLsb' k n = s.opA.extractLsb' k n := (extractLsb'_of_and_eq h hmask).symm
  cases i with
  | crcInit | crcFinal | qspiInit | qspiCsLow | qspiCsHigh | qspiGetMode => exact ⟨_, rfl, rfl⟩
  | crcUpdate => exact execCrcUpdate_carries b (field hA rfl)
  | qspiSetMode =>
    cases eq_of_and_allOnes_eq hA
    exact execQspiSetMode_carries s b
  | qspiSendCommand => exact execQspiSendCommand_carries b (field hA rfl)
  | qspiSendAddress =>
    cases eq_of_and_allOnes_eq hA
    cases eq_of_and_allOnes_eq hB
    exact execQspiSendAddress_carries s
  | qspiSendDummy =>
    cases eq_of_and_allOnes_eq hA
    exact ⟨_, execQspiSendDummy_eq s, execQspiSendDummy_eq _⟩
  | qspiWriteData => exact execQspiWriteData_carries b (field hA rfl)
  | qspiReadData => exact ⟨_, execQspiReadData_eq s, execQspiReadData_eq _⟩
  | qspiTransfer => exact execQspiTransfer_carries b (field hA rfl)
  | qspiEnterQpi => exact switchMode_carries .standard .qpi _ s a b
  | qspiExitQpi => exact switchMode_carries .qpi .standard _ s a b
  | swdInit =>
    exact carries_of_envDriven
      (f := fun _ _ s => swdXfer idcodeReadHeader 0 (swdConnect Config.swdResetClocks Config.swdJtag2Swd s))
      (fun _ _ => (swdXfer_envDriven idcodeReadHeader 0).afterConnect Config.swdJtag2Swd) rfl
  | swdReadDp =>
    have haddr : opDpAddr a = opDpAddr s.opA := field hA rfl
    exact carries_of_envDriven (fun a _ => swdXfer_envDriven (header false true (opDpAddr a)) 0) (by rw [haddr])
  | swdWriteDp =>
    have haddr : opDpAddr a = opDpAddr s.opA := field hA rfl
    have hdata : b = s.opB := (eq_of_and_allOnes_eq hB).symm
    exact carries_of_envDriven
      (fun a b => (swdXfer_envDriven (header false false (opDpAddr a)) b).withoutData) (by rw [haddr, hdata])
  | swdReadAp =>
    obtain ⟨hselect, haddr⟩ := accessPort_fields hA
    exact carries_of_envDriven (fun a _ => readAp_envDriven (opApSel a) (opApAddr a))
      (by unfold readAp; rw [hselect, haddr])
  | swdWriteAp =>
    obtain ⟨hselect, haddr⟩ := accessPort_fields hA
    have hdata : b = s.opB := (eq_of_and_allOnes_eq hB).symm
    exact carries_of_envDriven (fun a b => (writeAp_envDriven (opApSel a) (opApAddr a) b).withoutData)
      (by unfold writeAp; rw [hselect, haddr, hdata])
  | swdTurnaround => exact ⟨_, rfl, rfl⟩
  | _ => cases hi

/-- Settles O14: by the fields each operation reads; of a 3-byte address these are the three bytes sent. -/
theorem unreadOperandBitsAreIgnored : Obligations.UnreadOperandBitsAreIgnored := by
  refine ⟨fun i s a b hi hA hB => exec_carries hi hA hB, fun s a hlen h => ?_⟩
  have hbyte (k : Nat) (hmask : (0xFFFFFF#32).extractLsb' k 8 = BitVec.allOnes 8) :
      a.extractLsb' k 8 = s.opA.extractLsb' k 8 := (extractLsb'_of_and_eq h hmask).symm
  have hbytes : addressBytes s.opB.toNat a = addressBytes s.opB.toNat s.opA := by
    rw [hlen]
    simp [addressBytes, hbyte 16 rfl, hbyte 8 rfl, hbyte 0 rfl]
  refine ⟨_, execQspiSendAddress_sent (.inl hlen),
    (execQspiSendAddress_sent (s := { s with opA := a }) (.inl hlen)).trans ?_⟩
  rw [hbyte 0 rfl, hbytes]
  rfl

end Sys2Proof.Machine

/-! The SWD engine between operations (42_swd.md, section 5): the cycles of each operation, and where it leaves the line. -/

namespace Sys2Proof.Machine

/-! ## Cycles (42_swd.md R208) -/

/-- A trace of SWD events alone has as many cycles as events. -/
theorem cycles_append_of_swd {e : List Event} (he : ∀ x ∈ e, x.isSwd = true) (tr : List Event) :
    cycles (tr ++ e) = cycles tr + e.length := by
  rw [cycles, List.countP_append, List.countP_eq_length.mpr he, cycles]

theorem cycles_leftAborted (h : Byte) (s : State) : cycles (leftAborted h s).trace = cycles s.trace + 13 := by
  rw [leftAborted, swdLeft_trace, cycles_append_of_swd (isSwd_of_mem_abortedTrace _ _)]
  simp [abortedTrace, hostBits, targetBits]

theorem cycles_leftRead (h : Byte) (s : State) : cycles (leftRead h s).trace = cycles s.trace + 46 := by
  rw [leftRead, swdLeft_trace, cycles_append_of_swd (isSwd_of_mem_readTrace _ _ _)]
  simp [readTrace, hostBits, targetBits]

theorem cycles_leftWritten (h : Byte) (wdata : Word) (s : State) :
    cycles (leftWritten h wdata s).trace = cycles s.trace + 46 := by
  rw [leftWritten, swdLeft_trace, cycles_append_of_swd (isSwd_of_mem_writeTrace _ _)]
  simp [writeTrace, hostBits, targetBits]

/-- A transaction takes 46 cycles when it is acknowledged, 13 when it is not. -/
theorem swdXfer_cycles (h : Byte) (wdata : Word) (s : State) :
    cycles (swdXfer h wdata s).state.trace = cycles s.trace + if ackAt s = 1#3 then 46 else 13 := by
  by_cases ha : ackAt s = 1#3
  · rw [if_pos ha]
    cases hr : h.getLsbD 2 with
    | true =>
      rw [swdXfer_read h wdata s hr (ackIsOk_of_eq ha)]
      exact cycles_leftRead h s
    | false =>
      rw [swdXfer_of_written wdata hr ha]
      exact cycles_leftWritten h wdata s
  · rw [if_neg ha, swdXfer_of_unacknowledged wdata ha]
    exact cycles_leftAborted h s

/-- A return adds no event (30_encoding.md R81). -/
theorem trace_returnData (x : Xfer) : x.returnData.trace = x.state.trace := by
  rw [Xfer.returnData]
  split <;> rfl

theorem trace_returnDone (x : Xfer) : x.returnDone.trace = x.state.trace := by
  rw [Xfer.returnDone]
  split <;> rfl

theorem cycles_swdConnect (switch : BitVec 16) (s : State) :
    cycles (swdConnect Config.swdResetClocks switch s).trace
      = cycles s.trace + (2 * Config.swdResetClocks + 16 + 8) := by
  rw [swdConnect_swdResetClocks, swdLeft_trace, cycles_append_of_swd (isSwd_of_mem_connectTrace _ _)]
  simp [connectTrace, hostBits]
  omega

/-- The IDCODE read of `init()` meets the acknowledgement the environment had ready before the connection. -/
theorem ackAt_swdConnect (switch : BitVec 16) (s : State) :
    ackAt (swdConnect Config.swdResetClocks switch s) = ackAt s := by
  rw [swdConnect_swdResetClocks, ackAt_swdLeft_zero]

theorem execSwdInit_cycles (s : State) : ∃ t, execSwdInit s = .next t ∧ cycles t.trace
    = cycles s.trace + (2 * Config.swdResetClocks + 16 + 8) + if ackAt s = 1#3 then 46 else 13 := by
  refine ⟨_, rfl, ?_⟩
  rw [swdInitWith, trace_returnData, swdXfer_cycles, cycles_swdConnect, ackAt_swdConnect]

/-- From `s` to its end the access takes `done` cycles when it succeeds, and one of `failed` when it fails. -/
def Takes (done : Nat) (failed : List Nat) (s : State) (x : Xfer) : Prop :=
  ∃ n, cycles x.state.trace = cycles s.trace + n ∧ (x.ok = true → n = done) ∧ (x.ok = false → n ∈ failed)

/-- A read can fail before its data phase, or after it by its parity (42_swd.md R192, R193). -/
theorem swdXfer_takes_read {h : Byte} (hr : h.getLsbD 2 = true) (wdata : Word) (s : State) :
    Takes 46 [13, 46] s (swdXfer h wdata s) := by
  by_cases ha : ackAt s = 1#3
  · rw [swdXfer_read h wdata s hr (ackIsOk_of_eq ha)]
    exact ⟨46, cycles_leftRead h s, fun _ => rfl, fun _ => by decide⟩
  · rw [swdXfer_of_unacknowledged wdata ha]
    exact ⟨13, cycles_leftAborted h s, (fun hok => by cases hok), fun _ => by decide⟩

/-- A write can fail before its data phase only. -/
theorem swdXfer_takes_write {h : Byte} (hr : h.getLsbD 2 = false) (wdata : Word) (s : State) :
    Takes 46 [13] s (swdXfer h wdata s) := by
  by_cases ha : ackAt s = 1#3
  · rw [swdXfer_of_written wdata hr ha]
    exact ⟨46, cycles_leftWritten h wdata s, fun _ => rfl, (fun hok => by cases hok)⟩
  · rw [swdXfer_of_unacknowledged wdata ha]
    exact ⟨13, cycles_leftAborted h s, (fun hok => by cases hok), fun _ => by decide⟩

/-- The first failing transaction ends the access (R203, R204). -/
theorem Takes.andThen {s : State} {x : Xfer} {rest : State → Xfer} {c d : Nat} {f g : List Nat} (hx : Takes c f s x)
    (hrest : ∀ t, Takes d g t (rest t)) : Takes (c + d) (f ++ g.map (c + ·)) s (x.andThen rest) := by
  obtain ⟨n, hn, hdone, hfail⟩ := hx
  cases hok : x.ok with
  | true =>
    obtain ⟨m, hm, hdone', hfail'⟩ := hrest x.state
    rw [Xfer.andThen, if_pos hok]
    refine ⟨c + m, ?_, fun h => by rw [hdone' h], fun h => ?_⟩
    · rw [hm, hn, hdone hok, Nat.add_assoc]
    · exact List.mem_append_right _ (List.mem_map_of_mem (hfail' h))
  | false =>
    rw [Xfer.andThen, if_neg (Bool.eq_false_iff.mp hok)]
    exact ⟨n, hn, (fun h => by cases h), fun _ => List.mem_append_left _ (hfail hok)⟩

/-- A return says whether the access succeeded. -/
theorem status_returnData (x : Xfer) : x.returnData.status = if x.ok then 0#1 else 1#1 := by
  rw [Xfer.returnData]
  split <;> rfl

theorem status_returnDone (x : Xfer) : x.returnDone.status = if x.ok then 0#1 else 1#1 := by
  rw [Xfer.returnDone]
  split <;> rfl

theorem readAp_takes (apsel addr : Byte) (s : State) : Takes 138 [13, 59, 92, 105, 138] s (readAp apsel addr s) :=
  (swdXfer_takes_write (by decide) _ s).andThen fun t =>
    (swdXfer_takes_read (header_rnw _ _ _) _ t).andThen (swdXfer_takes_read (by decide) _)

theorem writeAp_takes (apsel addr : Byte) (wdata : Word) (s : State) :
    Takes 92 [13, 59] s (writeAp apsel addr wdata s) :=
  (swdXfer_takes_write (by decide) _ s).andThen (swdXfer_takes_write (header_rnw _ _ _) _)

theorem execSwdReadAp_cycles (s : State) : ∃ t n, execSwdReadAp s = .next t ∧ cycles t.trace = cycles s.trace + n
    ∧ n ∈ [13, 59, 92, 105, 138] ∧ (t.status = 0#1 → n = 138) := by
  obtain ⟨n, hn, hdone, hfail⟩ := readAp_takes (opApSel s.opA) (opApAddr s.opA) s
  refine ⟨_, n, rfl, (congrArg cycles (trace_returnData _)).trans hn, ?_⟩
  rw [status_returnData]
  cases hok : (readAp (opApSel s.opA) (opApAddr s.opA) s).ok with
  | true => exact ⟨by rw [hdone hok]; decide, fun _ => hdone hok⟩
  | false => exact ⟨hfail hok, (fun h => by cases h)⟩

theorem execSwdWriteAp_cycles (s : State) : ∃ t n, execSwdWriteAp s = .next t ∧ cycles t.trace = cycles s.trace + n
    ∧ (t.status = 0#1 → n = 92) ∧ (t.status = 1#1 → n = 13 ∨ n = 59) := by
  obtain ⟨n, hn, hdone, hfail⟩ := writeAp_takes (opApSel s.opA) (opApAddr s.opA) s.opB s
  refine ⟨_, n, rfl, (congrArg cycles (trace_returnDone _)).trans hn, ?_⟩
  rw [status_returnDone]
  cases hok : (writeAp (opApSel s.opA) (opApAddr s.opA) s.opB s).ok with
  | true => exact ⟨fun _ => hdone hok, (fun h => by cases h)⟩
  | false => exact ⟨(fun h => by cases h), fun _ => by simpa using hfail hok⟩

/-- Settles O55: each transaction's own count, added up over the transactions that run. -/
theorem cyclesPerOperation : Obligations.CyclesPerOperation := fun s =>
  ⟨⟨_, rfl, cycles_append_of_swd (by simp [Event.isSwd]) _⟩,
    ⟨_, rfl, by rw [trace_returnData, swdXfer_cycles]⟩, ⟨_, rfl, by rw [trace_returnDone, swdXfer_cycles]⟩,
    execSwdInit_cycles s, execSwdReadAp_cycles s, execSwdWriteAp_cycles s⟩

/-! ## Where an access leaves the pins (42_swd.md R207) -/

/-- `SWCLK` driven low; `SWDIO` released when the access failed, as `done` says when it succeeded. -/
def Leaves (done : Pin → Prop) (x : Xfer) : Prop :=
  x.state.swclk = Pin.drive false ∧ (x.ok = false → x.state.swdio.dir = .input) ∧ (x.ok = true → done x.state.swdio)

/-- The line released. -/
def Released (p : Pin) : Prop := p.dir = .input

theorem swdXfer_leaves_released {h : Byte} (hr : h.getLsbD 2 = true) (wdata : Word) (s : State) :
    Leaves Released (swdXfer h wdata s) := by
  cases ha : ackIsOk (ackAt s) with
  | false =>
    rw [swdXfer_aborted h wdata s ha]
    exact ⟨rfl, fun _ => rfl, fun _ => rfl⟩
  | true =>
    rw [swdXfer_read h wdata s hr ha]
    exact ⟨rfl, fun _ => rfl, fun _ => rfl⟩

theorem swdXfer_leaves_parity {h : Byte} (hr : h.getLsbD 2 = false) (wdata : Word) (s : State) :
    Leaves (· = Pin.drive (parity32 wdata)) (swdXfer h wdata s) := by
  cases ha : ackIsOk (ackAt s) with
  | false =>
    rw [swdXfer_aborted h wdata s ha]
    exact ⟨rfl, fun _ => rfl, (fun hok => by cases hok)⟩
  | true =>
    rw [swdXfer_write h wdata s hr ha]
    exact ⟨rfl, (fun hok => by cases hok), fun _ => rfl⟩

theorem Leaves.andThen {P Q : Pin → Prop} {x : Xfer} {rest : State → Xfer} (hx : Leaves P x)
    (hrest : ∀ t, Leaves Q (rest t)) : Leaves Q (x.andThen rest) := by
  cases hok : x.ok with
  | true =>
    rw [Xfer.andThen, if_pos hok]
    exact hrest x.state
  | false =>
    obtain ⟨hclk, hfail, -⟩ := hx
    rw [Xfer.andThen, if_neg (Bool.eq_false_iff.mp hok)]
    exact ⟨hclk, fun _ => hfail hok, (fun h => by cases h)⟩

theorem Leaves.returnData {x : Xfer} (hx : Leaves Released x) :
    x.returnData.swdio.dir = .input ∧ x.returnData.swclk = Pin.drive false := by
  obtain ⟨hclk, hfail, hdone⟩ := hx
  cases hok : x.ok with
  | true =>
    rw [Xfer.returnData, if_pos hok]
    exact ⟨hdone hok, hclk⟩
  | false =>
    rw [Xfer.returnData, if_neg (Bool.eq_false_iff.mp hok)]
    exact ⟨hfail hok, hclk⟩

theorem Leaves.returnDone {P : Pin → Prop} {x : Xfer} (hx : Leaves P x) :
    x.returnDone.swclk = Pin.drive false ∧ (x.returnDone.status = 1#1 → x.returnDone.swdio.dir = .input)
      ∧ (x.returnDone.status = 0#1 → P x.returnDone.swdio) := by
  obtain ⟨hclk, hfail, hdone⟩ := hx
  cases hok : x.ok with
  | true =>
    rw [Xfer.returnDone, if_pos hok]
    exact ⟨hclk, (fun h => by cases h), fun _ => hdone hok⟩
  | false =>
    rw [Xfer.returnDone, if_neg (Bool.eq_false_iff.mp hok)]
    exact ⟨hclk, fun _ => hfail hok, (fun h => by cases h)⟩

/-- What the environment decides does not depend on the two pins (10_state.md R37). -/
theorem EnvDriven.withPins {f : State → Xfer} (hf : EnvDriven f) (s : State) (p q : Pin) :
    f { s with swclk := p, swdio := q } = f s := by
  obtain ⟨ok, data, n, dio, e, h⟩ := hf s
  rw [h s ⟨rfl, rfl⟩, h { s with swclk := p, swdio := q } ⟨rfl, rfl⟩]
  rfl

/-- Settles O57: every transaction drives the clock low, and the line as its end says, from any pins. -/
theorem lineBetweenOperations : Obligations.LineBetweenOperations := by
  refine ⟨?reads, ?writes, ?noSession⟩
  all_goals simp only [List.forall_mem_cons, List.not_mem_nil, false_implies, implies_true, and_true]
  case reads =>
    exact ⟨fun s => ⟨_, rfl, (swdXfer_leaves_released (by decide) _ _).returnData⟩,
      fun s => ⟨_, rfl, (swdXfer_leaves_released (header_rnw _ _ _) _ _).returnData⟩,
      fun s => ⟨_, rfl, ((swdXfer_leaves_parity (by decide) _ s).andThen fun t =>
        (swdXfer_leaves_released (header_rnw _ _ _) _ t).andThen (swdXfer_leaves_released (by decide) _)).returnData⟩,
      fun s => ⟨_, rfl, rfl, rfl⟩⟩
  case writes =>
    exact ⟨fun s => ⟨_, rfl, (swdXfer_leaves_parity (header_rnw _ _ _) _ s).returnDone⟩,
      fun s => ⟨_, rfl, ((swdXfer_leaves_parity (by decide) _ s).andThen
        (swdXfer_leaves_parity (header_rnw _ _ _) _)).returnDone⟩⟩
  case noSession =>
    have same {f : State → Xfer} (hf : EnvDriven f) (g : Xfer → State) (s : State) (p q : Pin) :
        (Host.Outcome.next (g (f { s with swclk := p, swdio := q })) : Host.Outcome State Fault Refusal)
          = .next (g (f s)) := by rw [hf.withPins]
    exact ⟨fun s => same (f := fun s => swdXfer idcodeReadHeader 0 (swdConnect _ _ s))
        ((swdXfer_envDriven _ _).afterConnect _) Xfer.returnData s,
      fun s => same (swdXfer_envDriven (header false true (opDpAddr s.opA)) 0) Xfer.returnData s,
      fun s => same (swdXfer_envDriven (header false false (opDpAddr s.opA)) s.opB) Xfer.returnDone s,
      fun s => same (readAp_envDriven (opApSel s.opA) (opApAddr s.opA)) Xfer.returnData s,
      fun s => same (writeAp_envDriven (opApSel s.opA) (opApAddr s.opA) s.opB) Xfer.returnDone s⟩

end Sys2Proof.Machine

/-! The transaction as the state machine of 42_swd.md R191: what it does in each phase, cycle by cycle, and so that it runs
the phases of `swdXfer` in their order. -/

namespace Sys2Proof.Machine

/-! ## Runs of the state machine -/

/-- In exactly n cycles the state machine comes from `r` to `q`, busy until then. -/
def PhaseRun.Runs (h : Byte) (wdata : Word) (n : Nat) (r q : PhaseRun) : Prop :=
  PhaseRun.after h wdata n r = q ∧ ∀ k < n, (PhaseRun.after h wdata k r).phase ≠ .idle

section
variable {h : Byte} {wdata : Word}

theorem PhaseRun.after_succ (n : Nat) (r : PhaseRun) :
    PhaseRun.after h wdata (n + 1) r = (PhaseRun.after h wdata n r).tick h wdata := rfl

theorem PhaseRun.after_add (m n : Nat) (r : PhaseRun) :
    PhaseRun.after h wdata (m + n) r = PhaseRun.after h wdata n (PhaseRun.after h wdata m r) := by
  induction n with
  | zero => rfl
  | succ n ih => rw [← Nat.add_assoc, after_succ, ih, after_succ]

theorem PhaseRun.Runs.trans {m n : Nat} {r q p : PhaseRun} (hr : Runs h wdata m r q) (hq : Runs h wdata n q p) :
    Runs h wdata (m + n) r p := by
  obtain ⟨rfl, hbusy⟩ := hr
  obtain ⟨rfl, hbusy'⟩ := hq
  refine ⟨after_add m n r, fun k hk => ?_⟩
  by_cases hkm : k < m
  · exact hbusy k hkm
  · have hsplit : k = m + (k - m) := by omega
    rw [hsplit, after_add]
    exact hbusy' (k - m) (by omega)

/-- n cycles spent in one phase. -/
def PhaseRun.spend (h : Byte) (wdata : Word) (n : Nat) (r : PhaseRun) : PhaseRun :=
  loop n (fun i r => { r.cycle h wdata with spent := i + 1 }) r

theorem PhaseRun.spend_succ (n : Nat) (r : PhaseRun) :
    spend h wdata (n + 1) r = { (spend h wdata n r).cycle h wdata with spent := n + 1 } := rfl

/-- A cycle does not move the machine on. -/
theorem PhaseRun.cycle_phase (r : PhaseRun) : (r.cycle h wdata).phase = r.phase := by
  unfold cycle
  split <;> rfl

theorem PhaseRun.cycle_spent (r : PhaseRun) : (r.cycle h wdata).spent = r.spent := by
  unfold cycle
  split <;> rfl

theorem PhaseRun.spend_phase (n : Nat) (r : PhaseRun) : (spend h wdata n r).phase = r.phase := by
  induction n with
  | zero => rfl
  | succ n ih => rw [spend_succ]; exact (cycle_phase _).trans ih

theorem PhaseRun.spend_spent {r : PhaseRun} (hr : r.spent = 0) (n : Nat) : (spend h wdata n r).spent = n := by
  cases n with
  | zero => exact hr
  | succ n => rfl

/-- A cycle that is not the phase's last. -/
theorem PhaseRun.tick_of_more {r : PhaseRun} (hbusy : r.phase ≠ .idle) (hmore : r.spent + 1 ≠ r.phase.cycles) :
    r.tick h wdata = { r.cycle h wdata with spent := r.spent + 1 } := by
  rw [tick, if_neg hbusy]
  dsimp only
  rw [cycle_phase, cycle_spent, if_neg hmore]

/-- The phase's last cycle. -/
theorem PhaseRun.tick_of_last {r : PhaseRun} (hbusy : r.phase ≠ .idle) (hlast : r.spent + 1 = r.phase.cycles) :
    r.tick h wdata = (r.cycle h wdata).move h := by
  rw [tick, if_neg hbusy]
  dsimp only
  rw [cycle_phase, cycle_spent, if_pos hlast]

theorem PhaseRun.after_eq_spend {r : PhaseRun} (hbusy : r.phase ≠ .idle) (hr : r.spent = 0) {k : Nat}
    (hk : k < r.phase.cycles) : PhaseRun.after h wdata k r = spend h wdata k r := by
  induction k with
  | zero => rfl
  | succ k ih =>
    rw [after_succ, ih (by omega), tick_of_more, spend_spent hr, spend_succ]
    · rwa [spend_phase]
    · rw [spend_spent hr, spend_phase]
      omega

/-- Moving on forgets how many cycles were spent. -/
theorem PhaseRun.move_withSpent {r : PhaseRun} (hbusy : r.phase ≠ .idle) (j : Nat) :
    ({ r with spent := j } : PhaseRun).move h = r.move h := by
  obtain ⟨phase, spent, ack, data, par, ok, s⟩ := r
  cases phase with
  | idle => exact absurd rfl hbusy
  | _ => rfl

/-- A phase of n + 1 cycles from its start to the next phase's. -/
theorem PhaseRun.runs_phase {r q : PhaseRun} {n : Nat} (hbusy : r.phase ≠ .idle) (hr : r.spent = 0)
    (hn : r.phase.cycles = n + 1) (hq : (spend h wdata (n + 1) r).move h = q) :
    Runs h wdata (n + 1) r q := by
  have hphase : (spend h wdata n r).phase = r.phase := spend_phase n r
  constructor
  · have hlast : (spend h wdata n r).spent + 1 = (spend h wdata n r).phase.cycles := by
      rw [hphase, spend_spent hr, hn]
    have hmove := move_withSpent (h := h) (r := (spend h wdata n r).cycle h wdata) (by rwa [cycle_phase, hphase]) (n + 1)
    rw [after_succ, after_eq_spend hbusy hr (by omega), tick_of_last (by rwa [hphase]) hlast, ← hmove]
    exact hq
  · intro k hk
    rw [after_eq_spend hbusy hr (by omega), spend_phase]
    exact hbusy

/-! ## The phases of several cycles: bits sent and bits received -/

variable {a : BitVec 3} {d : Word} {p v : Level} {k : Bool} {s u : State}

theorem PhaseRun.spend_header (n : Nat) :
    spend h wdata n ⟨.header, 0, a, d, p, k, s⟩ = ⟨.header, n, a, d, p, k, swWriteBits h n s⟩ := by
  induction n with
  | zero => rfl
  | succ n ih => rw [spend_succ, ih]; rfl

theorem PhaseRun.spend_wdata (n : Nat) :
    spend h wdata n ⟨.wdata, 0, a, d, p, k, s⟩ = ⟨.wdata, n, a, d, p, k, swWriteBits wdata n s⟩ := by
  induction n with
  | zero => rfl
  | succ n ih => rw [spend_succ, ih]; rfl

/-- n cycles of a read of w bits: what has been received, and the machine. -/
def readLoop (w n : Nat) (s : State) : BitVec w × State :=
  loop n (fun i rs =>
    let (v, s) := swReadBit rs.2
    (putBit rs.1 i v, s)) (0, s)

theorem swReadBits_eq_readLoop (n : Nat) (s : State) : swReadBits n s = readLoop n n s := rfl

theorem PhaseRun.spend_ack (n : Nat) :
    spend h wdata n ⟨.ack, 0, 0, d, p, k, s⟩ = ⟨.ack, n, (readLoop 3 n s).1, d, p, k, (readLoop 3 n s).2⟩ := by
  induction n with
  | zero => rfl
  | succ n ih => rw [spend_succ, ih]; rfl

theorem PhaseRun.spend_rdata (n : Nat) :
    spend h wdata n ⟨.rdata, 0, a, 0, p, k, s⟩ = ⟨.rdata, n, a, (readLoop 32 n s).1, p, k, (readLoop 32 n s).2⟩ := by
  induction n with
  | zero => rfl
  | succ n ih => rw [spend_succ, ih]; rfl

theorem PhaseRun.spend_rpar :
    spend h wdata 1 ⟨.rpar, 0, a, d, p, k, s⟩ = ⟨.rpar, 1, a, d, (swReadBit s).1, k, (swReadBit s).2⟩ := rfl

/-! ## From phase to phase (42_swd.md R191) -/

theorem PhaseRun.runs_header :
    Runs h wdata 8 ⟨.header, 0, a, d, p, k, s⟩ ⟨.trn1, 0, a, d, p, k, sendHeader h s⟩ :=
  runs_phase (n := 7) (by simp) rfl rfl (by rw [spend_header]; rfl)

theorem PhaseRun.runs_trn1 : Runs h wdata 1 ⟨.trn1, 0, a, d, p, k, s⟩ ⟨.ack, 0, a, d, p, k, turnAround s⟩ :=
  runs_phase (n := 0) (by simp) rfl rfl rfl

/-- The acknowledgement, and the phase that it and the header choose. -/
theorem PhaseRun.runs_ack (hread : swReadBits 3 s = (a, u)) :
    Runs h wdata 3 ⟨.ack, 0, 0, d, p, k, s⟩
      ⟨if !ackIsOk a then .trnAbort else if h.getLsbD 2 then .rdata else .trn2w, 0, a, d, p, k, u⟩ :=
  runs_phase (n := 2) (by simp) rfl rfl (by rw [spend_ack, ← swReadBits_eq_readLoop, hread]; rfl)

/-- The abort turnaround ends the transaction (R192). -/
theorem PhaseRun.runs_trnAbort :
    Runs h wdata 1 ⟨.trnAbort, 0, a, d, p, k, s⟩ ⟨.idle, 0, a, 0, p, false, turnAround s⟩ :=
  runs_phase (n := 0) (by simp) rfl rfl rfl

theorem PhaseRun.runs_rdata (hread : swReadBits 32 s = (d, u)) :
    Runs h wdata 32 ⟨.rdata, 0, a, 0, p, k, s⟩ ⟨.rpar, 0, a, d, p, k, u⟩ :=
  runs_phase (n := 31) (by simp) rfl rfl (by rw [spend_rdata, ← swReadBits_eq_readLoop, hread]; rfl)

theorem PhaseRun.runs_rpar (hread : swReadBit s = (v, u)) :
    Runs h wdata 1 ⟨.rpar, 0, a, d, p, k, s⟩ ⟨.trn2r, 0, a, d, v, k, u⟩ :=
  runs_phase (n := 0) (by simp) rfl rfl (by rw [spend_rpar, hread]; rfl)

/-- The last turnaround of a read: the parity decides (42_swd.md R193). -/
theorem PhaseRun.runs_trn2r :
    Runs h wdata 1 ⟨.trn2r, 0, a, d, p, k, s⟩
      (if p != parity32 d then ⟨.idle, 0, a, 0, p, false, turnAround s⟩ else ⟨.idle, 0, a, d, p, true, turnAround s⟩) :=
  runs_phase (n := 0) (by simp) rfl rfl rfl

theorem PhaseRun.runs_trn2w : Runs h wdata 1 ⟨.trn2w, 0, a, d, p, k, s⟩ ⟨.wdata, 0, a, d, p, k, turnAround s⟩ :=
  runs_phase (n := 0) (by simp) rfl rfl rfl

theorem PhaseRun.runs_wdata :
    Runs h wdata 32 ⟨.wdata, 0, a, d, p, k, s⟩ ⟨.wpar, 0, a, d, p, k, swWriteBits wdata 32 s⟩ :=
  runs_phase (n := 31) (by simp) rfl rfl (by rw [spend_wdata]; rfl)

theorem PhaseRun.runs_wpar :
    Runs h wdata 1 ⟨.wpar, 0, a, d, p, k, s⟩ ⟨.idle, 0, a, 0, p, true, swWriteBit (parity32 wdata) s⟩ :=
  runs_phase (n := 0) (by simp) rfl rfl rfl

/-! ## The three ways through a transaction (42_swd.md R190) -/

/-- In n cycles the transaction under way ends, with this result. -/
def PhaseRun.EndsIn (h : Byte) (wdata : Word) (n : Nat) (r : PhaseRun) (x : Xfer) : Prop :=
  ∃ q, Runs h wdata n r q ∧ q.phase = .idle ∧ q.result = x

theorem PhaseRun.Runs.endsIn {m n : Nat} {r q : PhaseRun} {x : Xfer} (hr : Runs h wdata m r q)
    (hq : EndsIn h wdata n q x) : EndsIn h wdata (m + n) r x := by
  obtain ⟨t, hrun, hend⟩ := hq
  exact ⟨t, hr.trans hrun, hend⟩

theorem PhaseRun.endsIn_abort :
    EndsIn h wdata 1 ⟨.trnAbort, 0, a, d, p, k, s⟩ { ok := false, data := 0, state := turnAround s } :=
  ⟨_, runs_trnAbort, rfl, rfl⟩

theorem PhaseRun.endsIn_read : EndsIn h wdata 34 ⟨.rdata, 0, a, 0, p, k, s⟩ (readDataPhase s) := by
  rcases hword : swReadBits 32 s with ⟨w, t⟩
  rcases hpar : swReadBit t with ⟨b, u⟩
  have hrun := ((runs_rdata (h := h) (wdata := wdata) (a := a) (p := p) (k := k) hword).trans
    (runs_rpar hpar)).trans runs_trn2r
  refine ⟨_, hrun, ?_⟩
  rw [readDataPhase, hword]
  dsimp only
  rw [hpar]
  dsimp only
  by_cases hbad : (b != parity32 w) = true
  · rw [if_pos hbad, if_pos hbad]
    exact ⟨rfl, rfl⟩
  · rw [if_neg hbad, if_neg hbad]
    exact ⟨rfl, rfl⟩

theorem PhaseRun.endsIn_write : EndsIn h wdata 34 ⟨.trn2w, 0, a, d, p, k, s⟩ (writeDataPhase wdata s) := by
  have hrun := ((runs_trn2w (h := h) (wdata := wdata) (a := a) (d := d) (p := p) (k := k) (s := s)).trans
    runs_wdata).trans runs_wpar
  exact ⟨_, hrun, rfl, rfl⟩

/-- After the acknowledgement. -/
theorem PhaseRun.endsIn_choice (hread : swReadBits 3 (turnAround (sendHeader h s)) = (a, u)) :
    EndsIn h wdata (if ackIsOk a then 34 else 1)
      ⟨if !ackIsOk a then .trnAbort else if h.getLsbD 2 then .rdata else .trn2w, 0, a, 0, p, k, u⟩
      (swdXfer h wdata s) := by
  rw [swdXfer, ackPhase, hread]
  dsimp only
  cases ackIsOk a with
  | false =>
    simp only [Bool.not_false, Bool.false_eq_true, if_true, if_false]
    exact endsIn_abort
  | true =>
    cases h.getLsbD 2 with
    | true =>
      simp only [Bool.not_true, Bool.false_eq_true, if_true, if_false]
      exact endsIn_read
    | false =>
      simp only [Bool.not_true, Bool.false_eq_true, if_true, if_false]
      exact endsIn_write

theorem received_ack (s : State) : (swReadBits 3 (turnAround (sendHeader h s))).1 = ackAt s := by
  rw [headerPhase_eq]
  exact (congrArg Prod.fst (swReadBits_succ 2 _)).trans (ackAt_swdLeft_zero _ _ s)

/-- The whole transaction: 12 cycles to the acknowledgement, then 34 or 1. -/
theorem PhaseRun.endsIn_swdXfer (s : State) :
    EndsIn h wdata (12 + if ackIsOk (ackAt s) then 34 else 1) (.start s) (swdXfer h wdata s) := by
  rcases hread : swReadBits 3 (turnAround (sendHeader h s)) with ⟨a, u⟩
  have ha : a = ackAt s := (congrArg Prod.fst hread).symm.trans (received_ack s)
  rw [← ha]
  exact ((runs_header.trans runs_trn1).trans (runs_ack hread)).endsIn (endsIn_choice hread)

end

/-- Settles O56: the state machine's run is the transaction's own sequence of phases. -/
theorem transactionIsThePhaseMachine : Obligations.TransactionIsThePhaseMachine := by
  rintro h wdata s n rfl
  have hcount : (if ackAt s = 1#3 then 46 else 13) = 12 + if ackIsOk (ackAt s) then 34 else 1 := by
    simp only [ackIsOk_iff]
    split <;> rfl
  obtain ⟨q, ⟨hafter, hbusy⟩, hidle, hresult⟩ := PhaseRun.endsIn_swdXfer (h := h) (wdata := wdata) s
  rw [hcount, hafter]
  exact ⟨hidle, hresult, hbusy⟩

end Sys2Proof.Machine

/-! The wire rows (30_encoding.md, sections 2 and 3): each is one shared operation of an engine at the row's code. -/

namespace Sys2Proof.Machine

/-- A header row: its byte's bits on the wire, bit 0 first (30_encoding.md R91). -/
theorem exec_header {i : Instr} {h : Byte} {bits : List Level} {s : State} (hi : exec i s = .next (sendHeader h s))
    (hbits : (List.range 8).map h.getLsbD = bits) (hpark : h.getLsbD 7 = true) :
    exec i s = .next (swdLeft 0 { dir := .output, out := true } (bits.map .h) s) := by
  rw [hi, sendHeader_eq, hpark, ← hbits, List.map_map]
  rfl

/-- Settles O58: the rows by their bytes; the pattern by the fields of its header byte. -/
theorem headerRowsDriveTheirBits : Obligations.HeaderRowsDriveTheirBits := by
  refine ⟨?rows, fun ap rd a2 a3 p s => ?pattern⟩
  case rows =>
    simp only [List.forall_mem_cons, List.not_mem_nil, false_implies, implies_true, and_true]
    refine ⟨?_, ?_, ?_, ?_, ?_, ?_, ?_, ?_, ?_, ?_, ?_, ?_, ?_, ?_, ?_, ?_⟩
    all_goals exact fun s => exec_header rfl (by decide) (by decide)
  case pattern =>
    obtain ⟨h0, h1, h2, h3, h4, h5, h6, h7⟩ := headerBits_fields ap rd a2 a3 (headerParity ap rd a2 a3)
    refine exec_header rfl ?_ h7
    have hrange : List.range 8 = [0, 1, 2, 3, 4, 5, 6, 7] := rfl
    simp only [hrange, List.map_cons, List.map_nil, h0, h1, h2, h3, h4, h5, h6, h7]

theorem presentAck_ok (s : State) :
    presentAck 1#3 s = swdLeft 0 { dir := .input, out := s.swdio.out } [.t true, .t false, .t false] s := by
  rw [presentAck_eq, if_pos rfl]
  rfl

/-- A bad acknowledgement row: its bits, a turnaround, the failure (42_swd.md R192). -/
theorem exec_badAck {i : Instr} {a : BitVec 3} {bits : List Level} {s : State} (hi : exec i s = .next (presentAck a s))
    (hbits : (List.range 3).map a.getLsbD = bits) (ha : a ≠ 1#3) :
    exec i s = .next { swdLeft 0 { dir := .input, out := s.swdio.out } (bits.map .t ++ [.swdZ]) s with
      res := 0#32, status := 1#1 } := by
  rw [hi, presentAck_eq, if_neg ha, ← hbits, List.map_map]
  rfl

/-- Settles O59: the acknowledgement phase at each value, the two bytes at their widths, the six writes of QMODE. -/
theorem acknowledgementCommandAndModeRows : Obligations.AcknowledgementCommandAndModeRows := by
  intro s
  refine ⟨congrArg Host.Outcome.next (presentAck_ok s), ?badAcks,
    congrArg Host.Outcome.next (tx1_eq Config.qpiEnterCmd s), congrArg Host.Outcome.next (tx4_eq Config.qpiExitCmd s),
    ?modes⟩
  all_goals simp only [List.forall_mem_cons, List.not_mem_nil, false_implies, implies_true, and_true]
  case badAcks =>
    refine ⟨?_, ?_, ?_, ?_, ?_, ?_, ?_⟩
    all_goals exact exec_badAck rfl (by decide) (by decide)
  case modes => exact ⟨rfl, rfl, rfl, rfl, rfl, rfl⟩

end Sys2Proof.Machine
